-- ==== Sys2Proof/Word.lean ====
section
/-! DEFINITION. The word types of the FWINFO core and nothing else: every quantity is an unsigned bit vector
(00_scope.md R8, R9). A file offset has no type here: it is written as the number it is, because the width of the
registers that hold one is a parameter, not a constant (R7, log 1). -/

namespace Sys2Proof

/-- A byte is 8 bits (R9). -/
abbrev Byte := BitVec 8

/-- A 16-bit header field (R92, R93). -/
abbrev Half := BitVec 16

/-- A 32-bit header field, table entry or data register (R26, R92, R93). -/
abbrev Word := BitVec 32

end Sys2Proof
end

