-- ==== Sys2Proof/Syntax.lean ====
section
/-! DEFINITION. The instructions of the FWINFO core, one constructor per row of spec/opcode_table.json, and the two
header formats that are the words of its instruction stream (30_encoding.md R90). -/

namespace Sys2Proof

/-- The seven fields of a V1 header, 20 bytes (R92). -/
structure HeaderV1 where
  signature : Half
  blockType : Byte
  unknown3 : Byte
  reserved : Word
  declaredDataLength : Word
  declaredDataCrc32 : Word
  firmwareVersion : Word
deriving DecidableEq, Repr, Inhabited

/-- The nine fields of a V2 header, 24 bytes (R93). -/
structure HeaderV2 where
  signature : Word
  headerChecksum : Byte
  blockType : Byte
  hardwareRevision : Half
  firmwareVersion : Word
  declaredDataCrc32 : Word
  declaredDataLength : Word
  unknownField0x14 : Half
  deviceType : Half
deriving DecidableEq, Repr, Inhabited

/-- The instructions. `blockV1` and `blockV2` are the words of the file the walker runs (R90, R97); the rest are the
operations a 4-bit code written to `CMD` names (R105); the last five are the reserved codes (R106), one per row of
the table. -/
inductive Instr where
  | blockV1 (h : HeaderV1)
  | blockV2 (h : HeaderV2)
  | crcBuild
  | crcCompute
  | hcsCompute
  | hdrDec1
  | hdrDec2
  | hdrVsig
  | hdrEnc
  | walkProbe
  | walkStep
  | walkRun
  | rprRewrite
  | reserved0
  | reservedC
  | reservedD
  | reservedE
  | reservedF
deriving DecidableEq, Repr

/-- What an instruction is written as: a code in `CMD`, or the bytes of a header in the file (R90). -/
inductive InstrWord where
  | code (c : BitVec 4)
  | header (bytes : List Byte)
deriving DecidableEq, Repr

end Sys2Proof
end

