-- ==== Sys2Proof/Config.lean ====
section
/-! DEFINITION. What an implementation fixes (00_scope.md R7) and the free values: constants without a body, so that
nothing can be proved of the value one takes. -/

namespace Sys2Proof

/-- Whether a repair after a shortfall writes the observed length (R7, R261). The spec leaves it OPEN and gives no
default (92_eei_decisions.md D12). -/
inductive RepairLenPolicy where
  | keepDeclared
  | writeObserved
deriving DecidableEq, Repr, Inhabited

/-- The storage port's answer to a header rewrite: a draw the core does not choose (R263). -/
inductive PortAnswer where
  | ok
  | failSeek
  | failWrite
  | failSeekBack
deriving DecidableEq, Repr, Inhabited

/-- The parameters that stay arguments of the model (R7, R29). They are fixed for the machine: no step writes them. They
stand in State as plain data so that a claim can name their values (log 2). -/
structure Params where
  /-- `OFFSET_W`, the width of `CUR`, `HOFF` and `SAVED`, 33 or more; the spec's default is 64 (D5, U8; log 1). -/
  offsetW : Nat
  /-- `HCS_SEED`, the start value of the header checksum; the spec's default is `0x00` (D8). -/
  hcsSeed : Byte
  /-- `PROBE_MIN`, the fewest bytes the probe must obtain, 4 to 24; the spec's default is 24 (D10). -/
  probeMin : Nat
  /-- `REPAIR_LEN_POLICY`; no default (D12). -/
  repairLenPolicy : RepairLenPolicy
  /-- Whether the CRC-32 table is a read-only memory (R29): then `T` holds the constants and `TV` is 1 from reset. The
  spec's own choice is a RAM (D7; log 14). -/
  tableHardwired : Bool
deriving DecidableEq, Repr

namespace Config

/-- The length policy of the machine State.reset describes: the spec gives no default, so no value is chosen. -/
opaque repairLenPolicy : RepairLenPolicy

/-- What byte the file holds at an offset after a failed rewrite (R266; log 6), by draw and offset. -/
opaque freeFileByte : Nat → Nat → Byte

/-- Where the cursor stands after a failed rewrite (R266; log 6), by draw; `CUR` keeps the low `OFFSET_W` bits. -/
opaque freeCursor : Nat → Nat

/-- What `HB[k]` holds when the rules give it no value (R27, R332; log 9), by draw and index. -/
opaque freeHeaderByte : Nat → Nat → Byte

/-- The fields of `DH` after the host wrote the tag `V1` over another tag (R40; log 4), by draw. -/
opaque freeHeaderV1 : Nat → HeaderV1

/-- The fields of `DH` after the host wrote the tag `V2` over another tag (R40; log 4), by draw. -/
opaque freeHeaderV2 : Nat → HeaderV2

/-- The storage port's answer when no answer is queued (R263; log 7), by draw. -/
opaque freeAnswer : Nat → PortAnswer

/-- What `RPTN` reads as when the log holds more records than 32 bits count (R39; log 17). -/
opaque freeRecordCount : Nat → Word

end Config

end Sys2Proof
end

