-- ==== Sys2Proof/WellFormed.lean ====
section
/-! DEFINITION. Which instruction terms stand for a word of the opcode table: a header word carries the fixed
signature of its format (R92, R93, R95). Every other field admits every value of its width. -/

namespace Sys2Proof

/-- A V1 header word must carry `0xAA55` in bits 15:0 (R92, R95). -/
def HeaderV1.wellFormed (h : HeaderV1) : Bool := h.signature == 0xAA55#16

/-- A V2 header word must carry `0x0000005A` in bits 31:0 (R93, R95). -/
def HeaderV2.wellFormed (h : HeaderV2) : Bool := h.signature == 0x0000005A#32

/-- The terms the encoder and the decoder agree on. -/
def Instr.wellFormed : Instr → Bool
  | .blockV1 h => h.wellFormed
  | .blockV2 h => h.wellFormed
  | .crcBuild => true
  | .crcCompute => true
  | .hcsCompute => true
  | .hdrDec1 => true
  | .hdrDec2 => true
  | .hdrVsig => true
  | .hdrEnc => true
  | .walkProbe => true
  | .walkStep => true
  | .walkRun => true
  | .rprRewrite => true
  | .reserved0 => true
  | .reservedC => true
  | .reservedD => true
  | .reservedE => true
  | .reservedF => true

end Sys2Proof
end

