-- ==== Sys2Proof/Decode.lean ====
section
/-! DEFINITION. Byte order (00_scope.md R9), the two header layouts (30_encoding.md R92, R93; 42_header_codec.md R181,
R186), the operation codes (R105, R106), the decoder of an instruction word, the encoder, and the decoder's answer to
a word of the opcode table. -/

namespace Sys2Proof

/-- Byte `o` of a byte sequence; callers stay inside the sequence. -/
def byteAt (B : List Byte) (o : Nat) : Byte := B.getD o 0#8

/-- `le16(B, o)` (R9). -/
def le16 (B : List Byte) (o : Nat) : Half :=
  (byteAt B o).setWidth 16 ||| ((byteAt B (o + 1)).setWidth 16 <<< 8)

/-- `le32(B, o)` (R9). -/
def le32 (B : List Byte) (o : Nat) : Word :=
  (byteAt B o).setWidth 32 ||| ((byteAt B (o + 1)).setWidth 32 <<< 8) |||
    ((byteAt B (o + 2)).setWidth 32 <<< 16) ||| ((byteAt B (o + 3)).setWidth 32 <<< 24)

/-- The two bytes `put16` writes, lowest offset first (R9). -/
def bytes16 (v : Half) : List Byte := [v.extractLsb' 0 8, v.extractLsb' 8 8]

/-- The four bytes `put32` writes, lowest offset first (R9). -/
def bytes32 (v : Word) : List Byte :=
  [v.extractLsb' 0 8, v.extractLsb' 8 8, v.extractLsb' 16 8, v.extractLsb' 24 8]

/-- `H1`, the size of a V1 header (R6). -/
def sizeV1 : Nat := 20

/-- `H2`, the size of a V2 header (R6). -/
def sizeV2 : Nat := 24

/-- `SIG1` (R6, R95). -/
def sigV1 : Half := 0xAA55#16

/-- `SIG2` (R6, R95). -/
def sigV2 : Word := 0x0000005A#32

/-- `decV1` (R181): `none` is the source's `IncompleteHeader`. Bytes beyond the 20th are not looked at, and no field's
value is (R184). -/
def decV1 (B : List Byte) : Option HeaderV1 :=
  if B.length < sizeV1 then none
  else some
    { signature := le16 B 0
      blockType := byteAt B 2
      unknown3 := byteAt B 3
      reserved := le32 B 4
      declaredDataLength := le32 B 8
      declaredDataCrc32 := le32 B 12
      firmwareVersion := le32 B 16 }

/-- `decV2` (R181): `none` is `IncompleteHeader`. Bytes beyond the 24th are not looked at. -/
def decV2 (B : List Byte) : Option HeaderV2 :=
  if B.length < sizeV2 then none
  else some
    { signature := le32 B 0
      headerChecksum := byteAt B 4
      blockType := byteAt B 5
      hardwareRevision := le16 B 6
      firmwareVersion := le32 B 8
      declaredDataCrc32 := le32 B 12
      declaredDataLength := le32 B 16
      unknownField0x14 := le16 B 20
      deviceType := le16 B 22 }

/-- `encV1` (R186), 20 bytes. -/
def encV1 (h : HeaderV1) : List Byte :=
  bytes16 h.signature ++ [h.blockType, h.unknown3] ++ bytes32 h.reserved ++ bytes32 h.declaredDataLength ++
    bytes32 h.declaredDataCrc32 ++ bytes32 h.firmwareVersion

/-- `encV2` (R186), 24 bytes. -/
def encV2 (h : HeaderV2) : List Byte :=
  bytes32 h.signature ++ [h.headerChecksum, h.blockType] ++ bytes16 h.hardwareRevision ++
    bytes32 h.firmwareVersion ++ bytes32 h.declaredDataCrc32 ++ bytes32 h.declaredDataLength ++
    bytes16 h.unknownField0x14 ++ bytes16 h.deviceType

/-- Why the decoder refuses a header word. -/
inductive DecodeReject where
  /-- fewer bytes than the header takes -/
  | shortHeader (available : Nat)
  /-- a whole header whose first bytes are neither signature (R95, R102) -/
  | unknownSignature (first4 : Word)
deriving DecidableEq, Repr

/-- The instruction a code of `CMD` names (R105, R106). Total: all sixteen codes have a row. -/
def decodeCode (c : BitVec 4) : Instr :=
  match c.toNat with
  | 0x1 => .crcBuild
  | 0x2 => .crcCompute
  | 0x3 => .hcsCompute
  | 0x4 => .hdrDec1
  | 0x5 => .hdrDec2
  | 0x6 => .hdrVsig
  | 0x7 => .hdrEnc
  | 0x8 => .walkProbe
  | 0x9 => .walkStep
  | 0xA => .walkRun
  | 0xB => .rprRewrite
  | 0xC => .reservedC
  | 0xD => .reservedD
  | 0xE => .reservedE
  | 0xF => .reservedF
  | _ => .reserved0

/-- The header word at the front of a byte sequence, told by its signature, the V2 test first (R95, R96). Bytes after
the header are its payload tail and are not looked at. -/
def decodeHeader (B : List Byte) : Except DecodeReject Instr :=
  if B.length < sizeV1 then .error (.shortHeader B.length)
  else if le32 B 0 = sigV2 then
    match decV2 B with
    | some h => .ok (.blockV2 h)
    | none => .error (.shortHeader B.length)
  else if le16 B 0 = sigV1 then
    match decV1 B with
    | some h => .ok (.blockV1 h)
    | none => .error (.shortHeader B.length)
  else .error (.unknownSignature (le32 B 0))

/-- The decoder of both kinds of word (R90). -/
def decode : InstrWord → Except DecodeReject Instr
  | .code c => .ok (decodeCode c)
  | .header B => decodeHeader B

/-- The word of an instruction, from the tables of R92, R93 and R105. -/
def encode : Instr → InstrWord
  | .blockV1 h => .header (encV1 h)
  | .blockV2 h => .header (encV2 h)
  | .crcBuild => .code 0x1#4
  | .crcCompute => .code 0x2#4
  | .hcsCompute => .code 0x3#4
  | .hdrDec1 => .code 0x4#4
  | .hdrDec2 => .code 0x5#4
  | .hdrVsig => .code 0x6#4
  | .hdrEnc => .code 0x7#4
  | .walkProbe => .code 0x8#4
  | .walkStep => .code 0x9#4
  | .walkRun => .code 0xA#4
  | .rprRewrite => .code 0xB#4
  | .reserved0 => .code 0x0#4
  | .reservedC => .code 0xC#4
  | .reservedD => .code 0xD#4
  | .reservedE => .code 0xE#4
  | .reservedF => .code 0xF#4

/-- How many bits a word holds: 4 for a code, `8H` for a header of `H` bytes (R91, R105). -/
def InstrWord.bits : InstrWord → Nat
  | .code _ => 4
  | .header B => 8 * B.length

/-- The `n` bytes of a header word `w`: bit `8k + j` of the word is bit `j` of byte `k` (R91). -/
def bytesOfWord (n w : Nat) : List Byte :=
  (List.range n).map fun k => BitVec.ofNat 8 (w >>> (8 * k))

/-- Whether a table row of `nbits` bits is an operation code (4 bits, one whole byte) rather than a header word. -/
def isCodeRow (nbits : Nat) : Bool := nbits ≤ 8

/-- The instruction the decoder reads from a word of the opcode table. A code row is the 4 bits written to `CMD`, so a
value that needs more bits is no code; a header row is laid out as bytes of the file, zero above `nbits`, 24 bytes in
all (the longest header). -/
def decodeTableWord (nbits w : Nat) : Option Instr :=
  if isCodeRow nbits then
    if w < 16 then some (decodeCode (BitVec.ofNat 4 w)) else none
  else
    match decode (.header (bytesOfWord sizeV2 w)) with
    | .ok i => some i
    | .error _ => none

end Sys2Proof
end

