-- ==== Sys2Proof/Machine/State.lean ====
section
/-! DEFINITION. The state of the FWINFO core as plain data (10_state.md), what stops a step, and the state after reset
(70_reset_and_hazards.md R321). Every field's docstring names its rule. -/

namespace Sys2Proof.Machine

/-- `WS`, the walker's state (R30, R233). Codes 6 and 7 are never produced, so they have no constructor. -/
inductive WalkState where
  | idle
  | scanningV1
  | scanningV2
  | stoppedClean
  | stoppedError
  | fatal
deriving DecidableEq, Repr

/-- `CAUSE`, the code of the last stop, fatal failure or refusal (R42, R281). Codes 7 and 13 to 15 are never
produced. -/
inductive Cause where
  | none
  | probeUnreadable
  | probeUnrecognized
  | incompleteHeader
  | badSignature
  | payloadShortfall
  | repairIo
  | refBadOp
  | refNoTable
  | refState
  | refBusy
  | refNoHeader
deriving DecidableEq, Repr

/-- `DH`, the decoded header: a tagged variant (R28). -/
inductive DecodedHeader where
  | none
  | v1 (h : HeaderV1)
  | v2 (h : HeaderV2)
deriving DecidableEq, Repr

/-- `DH.tag` (R28, R40). -/
inductive HeaderTag where
  | none
  | v1
  | v2
deriving DecidableEq, Repr

/-- A signature at the width its format gives it: 16 bits in V1, 32 in V2 (R228); `absent` under tag `None`. -/
inductive SigValue where
  | absent
  | v1 (s : Half)
  | v2 (s : Word)
deriving DecidableEq, Repr

/-- The recognized block types (R99). -/
inductive BlockTypeTag where
  | cpu
  | ble
  | extRom
deriving DecidableEq, Repr

/-- The recognized device types (R100). -/
inductive DeviceTypeTag where
  | mjdjj02fy
  | mjdjj03fy
deriving DecidableEq, Repr

/-- The stage of a rewrite that failed (R227, R263). -/
inductive RepairStage where
  | seek
  | write
  | seekBack
deriving DecidableEq, Repr

/-- The fields of a `Block` record (R228). A field only one format has is an Option: `none` in the other format. A tag
is `none` where the value is not recognized. -/
structure BlockRecord where
  format : HeaderTag
  headerOffset : Nat
  signature : SigValue
  headerChecksumStored : Option Byte
  headerChecksumComputed : Option Byte
  hcsMismatch : Option Bool
  blockType : Byte
  blockTypeTag : Option BlockTypeTag
  unknown3 : Option Byte
  reserved : Option Word
  hardwareRevision : Option Half
  unknownField0x14 : Option Half
  deviceType : Option Half
  deviceTypeTag : Option DeviceTypeTag
  firmwareVersion : Word
  major : Byte
  minor : Byte
  patch : Half
  declaredDataLength : Word
  observedByteCount : Word
  shortfall : Bool
  declaredDataCrc32 : Word
  observedCrc32 : Word
  crcMismatch : Bool
  payloadOffset : Nat
deriving DecidableEq, Repr

/-- The records of the report log (R227). -/
inductive Record where
  | probeUnreadable (offset : Nat) (bytesAvailable : Nat)
  | probeUnrecognized (offset : Nat) (first4 : Word)
  | cleanEnd (offset : Nat)
  | incompleteHeader (offset : Nat) (bytesRead : Nat)
  | badSignature (offset : Nat) (observedSignature : SigValue) (header : DecodedHeader)
  | block (b : BlockRecord)
  | repairFatal (offset : Nat) (stage : RepairStage)
deriving DecidableEq, Repr

/-- One thing the outside world does to the machine (R21, R36, R320, R324; log 10). -/
inductive HostInput where
  /-- A write of `value`, a number of any width (log 16), to the numbered register `reg` (R36); register 0 is `CMD`, so
  that write is a command (R37). `waits` says whether the host holds the write back until `BUSY` is 0; a write that does
  not wait and stands right behind an accepted command arrives while `BUSY` is 1 (log 11). -/
  | write (reg : Nat) (value : Nat) (waits : Bool)
  /-- The host attaches a firmware file with these contents (R324 step 3). -/
  | attach (bytes : List Byte)
  /-- The host grants or takes back write access to the file (R38, R324 step 4). -/
  | grant (access : Bool)
  /-- The storage port will answer one rewrite more, and so (R263). -/
  | portAnswer (o : PortAnswer)
  /-- The reset step (R320). -/
  | reset
deriving DecidableEq, Repr

/-- The state of the machine: the core, the file it reaches, its parameters, and what the outside world is about to
do. -/
structure State where
  /-- `CUR`, the cursor and program counter, `OFFSET_W` bits (R22). -/
  cur : Nat
  /-- `HOFF`, the header offset, `OFFSET_W` bits (R25). -/
  hoff : Nat
  /-- `SAVED`, the read position during a repair write, `OFFSET_W` bits (R32). -/
  saved : Nat
  /-- `CRC`, the running accumulator (R26). -/
  crc : Word
  /-- `CRCOUT`, the last finished digest (R26). -/
  crcout : Word
  /-- `CNT`, the bytes the last CRC run consumed (R26). -/
  cnt : Word
  /-- `MAXB`, the bound of a CRC run (R26). -/
  maxb : Word
  /-- `RES`, the header-checksum shift register (R26). -/
  res : Byte
  /-- `DAT`, the header-checksum data shift register (R26). -/
  dat : Byte
  /-- `HCSOUT`, the last finished header checksum (R26). -/
  hcsout : Byte
  /-- `HB[0..23]`, the header buffer, always 24 bytes (R26, R27). -/
  hb : List Byte
  /-- `HBN`, the number of valid bytes in `HB`, 0 to 24 (R26). -/
  hbn : BitVec 5
  /-- `DH`, the decoded header (R28). -/
  dh : DecodedHeader
  /-- `T[0..255]`, the CRC-32 lookup table, always 256 entries (R29). -/
  table : List Word
  /-- `TV`, the table is valid (R33). -/
  tv : Bool
  /-- `WS`, the walker's state (R30). -/
  ws : WalkState
  /-- `RE`, the repair flag latched by the probe (R31). -/
  re : Bool
  /-- `BUSY` (R33). -/
  busy : Bool
  /-- `INCOMPLETE` (R33). -/
  incomplete : Bool
  /-- `SIGOK` (R33). -/
  sigok : Bool
  /-- `SHORT` (R33, R34). -/
  short : Bool
  /-- `CRCBAD` (R33, R34). -/
  crcbad : Bool
  /-- `HCSBAD` (R33, R34). -/
  hcsbad : Bool
  /-- `REFUSED` (R33). -/
  refused : Bool
  /-- `EXIT`, the exit code (R35). -/
  exitCode : Bool
  /-- `CAUSE` (R42). -/
  cause : Cause
  /-- `CFG.REPAIR_EN`, the one implemented bit of `CFG` (R38). -/
  repairEn : Bool
  /-- `RPT`, the report log, oldest record first (R45). -/
  rpt : List Record
  /-- `F`, the firmware file: its bytes other than 0, by offset, in one canonical form (R44, R61; log 5). -/
  mem : List Host.Cell
  /-- `L`, the length of the file (R44), below `2^OFFSET_W` by the premise `length_fits` (R211; log 1). -/
  fileLen : Nat
  /-- The host has granted write access to the file (R21, R38, R331; log 8). -/
  writeAccess : Bool
  /-- The parameters of R7; no step writes them (log 2). -/
  params : Params
  /-- The MODEL's own: the host inputs still to come, the next one first (log 10). -/
  inputs : List HostInput
  /-- The MODEL's own: the storage port's answers still to come, the next one first (R263; log 7). -/
  answers : List PortAnswer
  /-- The MODEL's own: how many free values have been drawn (log 19). -/
  draws : Nat
deriving DecidableEq, Repr

/-- Why the machine faults. -/
inductive Fault where
  /-- Raised by the step that takes the host input `attach` while a scan is under way: the host breaks the premise
  `file_stable`, after which "no rule covers it and no claim may be made" (R74, R327, 93_implementation_defined.md
  U14; log 13). Safe. -/
  | fileChangedDuringScan
deriving DecidableEq, Repr

/-- Why the machine refuses to go on. -/
inductive Refusal where
  /-- An instruction without a meaning; raised by `exec` alone. Safe. No arm raises it. -/
  | notModelled (mnemonic : String)
  /-- Raised by the step that takes the host input `attach` with a file of `2^OFFSET_W` bytes or more: the launch
  premise `length_fits` excludes it (R211; log 13). Safe. -/
  | fileTooLong
deriving DecidableEq, Repr

/-- What an instruction's meaning answers with. -/
abbrev Result := Host.Outcome State Fault Refusal

/-- How a rule, or a numbered step of one, ends (R11): it goes on, or a `stop` or `raise` has ended the whole
operation. -/
inductive Flow where
  | goes (s : State)
  | ended (s : State)
deriving DecidableEq, Repr

/-- The registers a CRC-32 run works on (R135). -/
structure CrcRun where
  crc : Word
  cnt : Word
  cur : Nat
deriving DecidableEq, Repr

/-- What the step finds to do (log 10, log 15). -/
inductive Fetched where
  /-- an instruction, and the state with its input taken from the queue -/
  | instr (i : Instr) (s : State)
  /-- a host input that is no command, and what the machine does with it -/
  | host (r : Result)

/-- The machine right after reset (R321), with no file attached and no input pending. Where R321 says "unspecified"
the value is the model's: `T`, `HB`, `RES`, `DAT`, `SAVED` are zero (DESIGN CHOICE, log 3, unsafe); `F` and `L`, which
reset does not touch, are an empty file (DESIGN CHOICE, log 5, unsafe); write access is not granted (DESIGN CHOICE,
log 8, unsafe). -/
def State.reset : State where
  cur := 0
  hoff := 0
  saved := 0
  crc := 0xFFFFFFFF#32
  crcout := 0
  cnt := 0
  maxb := 0
  res := 0
  dat := 0
  hcsout := 0
  hb := List.replicate 24 0#8
  hbn := 0
  dh := .none
  table := List.replicate 256 0#32
  tv := false
  ws := .idle
  re := false
  busy := false
  incomplete := false
  sigok := false
  short := false
  crcbad := false
  hcsbad := false
  refused := false
  exitCode := false
  cause := .none
  repairEn := false
  rpt := []
  mem := []
  fileLen := 0
  writeAccess := false
  params :=
    { offsetW := 64
      hcsSeed := 0x00#8
      probeMin := 24
      repairLenPolicy := Config.repairLenPolicy
      tableHardwired := false }
  inputs := []
  answers := []
  draws := 0

end Sys2Proof.Machine
end

