-- ==== Sys2Proof/Machine/Ops.lean ====
section
/-! DEFINITION. The shared operations: the file store's primitives (20_memory.md R63 to R65), the records and the three
endings of an operation (60_exceptions.md R283 to R285), acceptance of a command (R285, R289), and the header
buffer. -/

/-- The number an `OFFSET_W`-bit register holds once `n` is written to it: the low `OFFSET_W` bits (R7, R22). -/
def Sys2Proof.Params.offset (p : Sys2Proof.Params) (n : Nat) : Nat := n % 2 ^ p.offsetW

namespace Sys2Proof.Machine

/-! ### The file store -/

/-- The byte an offset holds. An offset that is not listed holds 0: the list is the sparse form of `F`, all of whose
bytes the launch gives (R61; log 5). -/
def memGet : List Host.Cell → Nat → Byte
  | [], _ => 0#8
  | (k, v) :: rest, a => if a = k then v else memGet rest a

/-- Set one byte, keeping the canonical form: offsets strictly rising, no entry that holds 0. -/
def memSet : List Host.Cell → Nat → Byte → List Host.Cell
  | [], a, b => if b = 0#8 then [] else [(a, b)]
  | (k, v) :: rest, a, b =>
    if a < k then (if b = 0#8 then (k, v) :: rest else (a, b) :: (k, v) :: rest)
    else if a = k then (if b = 0#8 then rest else (a, b) :: rest)
    else (k, v) :: memSet rest a b

/-- Every listed offset is at least `lo`, the offsets rise strictly, and no entry holds 0. -/
def memWfFrom : Nat → List Host.Cell → Bool
  | _, [] => true
  | lo, (k, v) :: rest => decide (lo ≤ k) && decide (v ≠ 0#8) && memWfFrom (k + 1) rest

/-- The canonical form of a memory. -/
def memWf (m : List Host.Cell) : Bool := memWfFrom 0 m

/-- Every listed offset lies below the length of the file. -/
def memBelow (m : List Host.Cell) (len : Nat) : Bool := m.all fun c => decide (c.1 < len)

/-- `MemRead(addr, n)` (R63). -/
def memRead (m : List Host.Cell) (addr n : Nat) : List Byte :=
  (List.range n).map fun k => memGet m (addr + k)

/-- `MemWrite(addr, n, v)` (R65), `n` the length of `v`. -/
def memWrite (m : List Host.Cell) (addr : Nat) : List Byte → List Host.Cell
  | [] => m
  | b :: rest => memWrite (memSet m addr b) (addr + 1) rest

/-- The memory that holds `f a` at every offset `a` below `n` and 0 above, built below the cells `acc`. -/
def memFillOnto (f : Nat → Byte) : Nat → List Host.Cell → List Host.Cell
  | 0, acc => acc
  | n + 1, acc => memFillOnto f n (if f n = 0#8 then acc else (n, f n) :: acc)

/-- The memory that holds `f a` at every offset `a` below `n` and 0 above. -/
def memFill (f : Nat → Byte) (n : Nat) : List Host.Cell := memFillOnto f n []

/-- How many bytes a stream read of up to `n` bytes returns at the cursor (R64). -/
def streamCount (len cur : Nat) (n : Nat) : Nat :=
  if len ≤ cur then 0 else min n (len - cur)

/-- The bytes `StreamRead(n)` returns at the cursor (R64). The cursor's advance is the caller's. -/
def streamBytes (m : List Host.Cell) (len cur : Nat) (n : Nat) : List Byte :=
  memRead m cur (streamCount len cur n)

/-- `StreamRead(n)` (R64): the bytes, and the state with the cursor advanced by their count. The cursor stays at or
below `L`, so the sum cannot pass `OFFSET_W` bits (R24, R234). -/
def streamRead (n : Nat) (s : State) : List Byte × State :=
  let B := streamBytes s.mem s.fileLen s.cur n
  (B, { s with cur := s.cur + B.length })

/-! ### Records and the three endings -/

/-- `emit r` (R45). -/
def emit (r : Record) (s : State) : State := { s with rpt := s.rpt ++ [r] }

/-- `stop(clean, NONE)` (R283). -/
def stopClean (s : State) : State :=
  { s with ws := .stoppedClean, cause := .none, exitCode := false, busy := false }

/-- `stop(error, cause)` (R283). -/
def stopError (c : Cause) (s : State) : State :=
  { s with ws := .stoppedError, cause := c, exitCode := true, busy := false }

/-- `raise Fatal(REPAIR_IO)` (R284): the one exception of the core. Nothing is saved and nothing vectors (R290).
Afterwards `F` and `CUR` are unspecified (R266): every byte of `F` and the cursor are free values (log 6). The length
of the file does not change (R66). -/
def raiseFatal (s : State) : State :=
  { s with
    ws := .fatal
    cause := .repairIo
    exitCode := true
    busy := false
    mem := memFill (Config.freeFileByte s.draws) s.fileLen
    cur := s.params.offset (Config.freeCursor s.draws)
    draws := s.draws + 1 }

/-- Whether a refusal may overwrite `CAUSE` (R42, R285). -/
def causeIsKept (ws : WalkState) : Bool :=
  match ws with
  | .stoppedError => true
  | .fatal => true
  | .idle => false
  | .scanningV1 => false
  | .scanningV2 => false
  | .stoppedClean => false

/-- `refuse(code)` (R285): nothing else changes. -/
def refuse (c : Cause) (s : State) : State :=
  { s with refused := true, cause := if causeIsKept s.ws then s.cause else c }

/-! ### Acceptance of a command -/

/-- The inputs that arrive while `BUSY` is 1: the writes at the front of the queue that do not wait. Answers whether
one of them is a write to `CMD`, and the inputs left (log 11). -/
def takeOverlapping : List HostInput → Bool × List HostInput
  | .write reg _ false :: rest => (reg == 0 || (takeOverlapping rest).1, (takeOverlapping rest).2)
  | ins => (false, ins)

/-- Acceptance of a command (R285): `REFUSED` becomes 0 and `BUSY` 1 before its rule runs. A command that arrives while
`BUSY` is 1 is refused with `REF_BUSY` (R37) and a register write at that time is ignored (R43, R326). -/
def accept (s : State) : State :=
  { s with
    busy := true
    refused := (takeOverlapping s.inputs).1
    cause := if (takeOverlapping s.inputs).1 && !causeIsKept s.ws then .refBusy else s.cause
    inputs := (takeOverlapping s.inputs).2 }

/-- The operation ends: `BUSY` becomes 0 (R33). -/
def release (s : State) : State := { s with busy := false }

/-- The state a flow leaves. -/
def Flow.state : Flow → State
  | .goes s => s
  | .ended s => s

/-- Go on with `f` unless a stop or a raise has ended the operation (R214). -/
def Flow.andThen (x : Flow) (f : State → Flow) : Flow :=
  match x with
  | .goes s => f s
  | .ended s => .ended s

/-- A command: the refusals in the order of R289 (`REF_BADOP` is for codes without an operation), then acceptance, then
the operation's rule, then its end. `accepts` is the operation's row of R107; `unready` its own further refusal. -/
def command (accepts : WalkState → Bool) (unready : State → Option Cause) (rule : State → Flow) (s : State) : Result :=
  if s.busy then .next (refuse .refBusy s)
  else if !accepts s.ws then .next (refuse .refState s)
  else
    match unready s with
    | some c => .next (refuse c s)
    | none => .next (release (rule (accept s)).state)

/-- A reserved code (R106, R289): refused with `REF_BADOP`, after `REF_BUSY`. -/
def reservedCode (s : State) : Result :=
  if s.busy then .next (refuse .refBusy s) else .next (refuse .refBadOp s)

/-- R107, the rows of `CRC.BUILD` and the unit operations: `Idle`, `StoppedClean`, `StoppedError`. The same states
admit the host's register writes (R43). -/
def unitAccepts : WalkState → Bool
  | .idle => true
  | .stoppedClean => true
  | .stoppedError => true
  | .scanningV1 => false
  | .scanningV2 => false
  | .fatal => false

/-- R107, the row of `WALK.PROBE` and `WALK.RUN`. -/
def startAccepts : WalkState → Bool
  | .idle => true
  | .scanningV1 => false
  | .scanningV2 => false
  | .stoppedClean => false
  | .stoppedError => false
  | .fatal => false

/-- R107, the row of `WALK.STEP`. -/
def scanAccepts : WalkState → Bool
  | .scanningV1 => true
  | .scanningV2 => true
  | .idle => false
  | .stoppedClean => false
  | .stoppedError => false
  | .fatal => false

/-- No refusal beyond the walker's state. -/
def alwaysReady (_ : State) : Option Cause := none

/-- `REF_NO_TABLE` while the table is not built (R325). -/
def needsTable (s : State) : Option Cause := if s.tv then none else some .refNoTable

/-! ### The header buffer -/

/-- The buffer after `B` was put into its first bytes: the bytes from `|B|` on hold no value (R27, R332), so they are
free values (log 9). -/
def headerBuffer (draw : Nat) (B : List Byte) : List Byte :=
  B ++ (List.range (24 - B.length)).map fun j => Config.freeHeaderByte draw (B.length + j)

/-- `HB[0 .. |B|-1] <- B ; HBN <- |B|` (R216, R186). -/
def loadHb (B : List Byte) (s : State) : State :=
  { s with hb := headerBuffer s.draws B, hbn := BitVec.ofNat 5 B.length, draws := s.draws + 1 }

/-- The storage port's answer to one rewrite (R263): the next queued one, else a free value (log 7). -/
def drawAnswer (s : State) : PortAnswer × State :=
  match s.answers with
  | o :: rest => (o, { s with answers := rest })
  | [] => (Config.freeAnswer s.draws, { s with draws := s.draws + 1 })

end Sys2Proof.Machine
end

