-- ==== Sys2Proof/Machine/Operands.lean ====
section
/-! DEFINITION. The operands the operations work on: the fields of the decoded header (10_state.md R28, R40), the
version split and the tags (30_encoding.md R98 to R100), the valid bytes of the header buffer, and the numbered
registers' reading and writing (R36 to R43). -/

namespace Sys2Proof.Machine

/-! ### Fields of the decoded header -/

/-- `DH.tag`. -/
def DecodedHeader.tag : DecodedHeader → HeaderTag
  | .none => .none
  | .v1 _ => .v1
  | .v2 _ => .v2

/-- The result of `decV1` as a value of `DH`; an incomplete header leaves the tag `None` (R182). -/
def DecodedHeader.ofV1 : Option HeaderV1 → DecodedHeader
  | some h => .v1 h
  | Option.none => .none

/-- The result of `decV2` as a value of `DH` (R183). -/
def DecodedHeader.ofV2 : Option HeaderV2 → DecodedHeader
  | some h => .v2 h
  | Option.none => .none

/-- `DH.signature` at the width of its format (R228). -/
def DecodedHeader.signature : DecodedHeader → SigValue
  | .none => .absent
  | .v1 h => .v1 h.signature
  | .v2 h => .v2 h.signature

/-- `DH.declaredDataLength`; a field the tag does not have reads as 0 (R40). -/
def DecodedHeader.declaredDataLength : DecodedHeader → Word
  | .none => 0
  | .v1 h => h.declaredDataLength
  | .v2 h => h.declaredDataLength

/-- `DH.declaredDataCrc32`. -/
def DecodedHeader.declaredDataCrc32 : DecodedHeader → Word
  | .none => 0
  | .v1 h => h.declaredDataCrc32
  | .v2 h => h.declaredDataCrc32

/-- `DH.firmwareVersion`. -/
def DecodedHeader.firmwareVersion : DecodedHeader → Word
  | .none => 0
  | .v1 h => h.firmwareVersion
  | .v2 h => h.firmwareVersion

/-- `DH.blockType`. -/
def DecodedHeader.blockType : DecodedHeader → Byte
  | .none => 0
  | .v1 h => h.blockType
  | .v2 h => h.blockType

/-- The V1 fields, where they exist (R28). -/
def DecodedHeader.asV1 : DecodedHeader → Option HeaderV1
  | .v1 h => some h
  | .none => Option.none
  | .v2 _ => Option.none

/-- The V2 fields, where they exist (R28). -/
def DecodedHeader.asV2 : DecodedHeader → Option HeaderV2
  | .v2 h => some h
  | .none => Option.none
  | .v1 _ => Option.none

/-- Write `DH.declaredDataCrc32`; under tag `None` there is no such field (R261). -/
def DecodedHeader.withCrc32 (c : Word) : DecodedHeader → DecodedHeader
  | .none => .none
  | .v1 h => .v1 { h with declaredDataCrc32 := c }
  | .v2 h => .v2 { h with declaredDataCrc32 := c }

/-- Write `DH.declaredDataLength`. -/
def DecodedHeader.withLength (n : Word) : DecodedHeader → DecodedHeader
  | .none => .none
  | .v1 h => .v1 { h with declaredDataLength := n }
  | .v2 h => .v2 { h with declaredDataLength := n }

/-- Write `DH.headerChecksum`, which only V2 has. -/
def DecodedHeader.withChecksum (c : Byte) : DecodedHeader → DecodedHeader
  | .none => .none
  | .v1 h => .v1 h
  | .v2 h => .v2 { h with headerChecksum := c }

/-- `encV1(DH)` or `encV2(DH)` by the tag (R186, R261); no bytes under tag `None`. -/
def DecodedHeader.bytes : DecodedHeader → List Byte
  | .none => []
  | .v1 h => encV1 h
  | .v2 h => encV2 h

/-- The size of a header in the walker's mode (R214); the other states have no mode. -/
def modeSize : WalkState → Nat
  | .scanningV1 => sizeV1
  | .scanningV2 => sizeV2
  | .idle => 0
  | .stoppedClean => 0
  | .stoppedError => 0
  | .fatal => 0

/-! ### Version and tags -/

/-- `major = v[31:24]` (R98). -/
def versionMajor (v : Word) : Byte := v.extractLsb' 24 8

/-- `minor = v[23:16]` (R98). -/
def versionMinor (v : Word) : Byte := v.extractLsb' 16 8

/-- `patch = v[15:0]` (R98). -/
def versionPatch (v : Word) : Half := v.extractLsb' 0 16

/-- The tag of a block type; the same number means different things in the two formats (R99). -/
def blockTypeTag (t : HeaderTag) (b : Byte) : Option BlockTypeTag :=
  match t with
  | .none => none
  | .v1 => if b = 1#8 then some .cpu else if b = 2#8 then some .ble else none
  | .v2 => if b = 0#8 then some .cpu else if b = 1#8 then some .ble else if b = 2#8 then some .extRom else none

/-- The tag of a device type, V2 only (R100). -/
def deviceTypeTag (d : Half) : Option DeviceTypeTag :=
  if d = 4#16 then some .mjdjj02fy else if d = 5#16 then some .mjdjj03fy else none

/-! ### The valid bytes of the header buffer -/

/-- `HB[0 .. HBN-1]` (R182). -/
def validHeader (s : State) : List Byte := s.hb.take s.hbn.toNat

/-- `HB[5..23]`, the 19 bytes the header checksum covers (R164). -/
def checksumRange (hb : List Byte) : List Byte := (hb.drop 5).take 19

/-- `REF_NO_HEADER` while `HB` holds fewer than 24 valid bytes (R163). -/
def needsWholeV2 (s : State) : Option Cause := if s.hbn.toNat < 24 then some .refNoHeader else none

/-- `REF_NO_HEADER` while no header is decoded (R185, R186). -/
def needsDecoded (s : State) : Option Cause :=
  match s.dh with
  | .none => some .refNoHeader
  | .v1 _ => none
  | .v2 _ => none

/-- `REF_NO_HEADER` unless `HB` holds a whole header of either size (R264). -/
def needsWholeHeader (s : State) : Option Cause :=
  if s.hbn.toNat = 20 ∨ s.hbn.toNat = 24 then none else some .refNoHeader

end Sys2Proof.Machine
end

