-- ==== Sys2Proof/Machine/Flags.lean ====
section
/-! DEFINITION. The flag computations (10_state.md R33, R34) and the status word that mirrors them (R41). -/

namespace Sys2Proof.Machine

/-- `SIGOK`: 16-bit compare under V1, 32-bit compare under V2 (R185, R218). -/
def signatureOk : DecodedHeader → Bool
  | .none => false
  | .v1 h => h.signature == sigV1
  | .v2 h => h.signature == sigV2

/-- `SHORT` (R220). -/
def shortFlag (cnt declared : Word) : Bool := decide (cnt < declared)

/-- `CRCBAD` (R221). -/
def crcBadFlag (observed declared : Word) : Bool := observed != declared

/-- `HCSBAD` on a V2 header (R219). -/
def hcsBadFlag (observed stored : Byte) : Bool := observed != stored

/-- Any mismatch of the present block (R223, R260). -/
def anyMismatch (s : State) : Bool := s.short || s.crcbad || s.hcsbad

/-- The code of `WS` (R30). -/
def WalkState.code : WalkState → BitVec 3
  | .idle => 0#3
  | .scanningV1 => 1#3
  | .scanningV2 => 2#3
  | .stoppedClean => 3#3
  | .stoppedError => 4#3
  | .fatal => 5#3

/-- The code of `CAUSE` (R281). -/
def Cause.code : Cause → BitVec 4
  | .none => 0#4
  | .probeUnreadable => 1#4
  | .probeUnrecognized => 2#4
  | .incompleteHeader => 3#4
  | .badSignature => 4#4
  | .payloadShortfall => 5#4
  | .repairIo => 6#4
  | .refBadOp => 8#4
  | .refNoTable => 9#4
  | .refState => 10#4
  | .refBusy => 11#4
  | .refNoHeader => 12#4

/-- One flag at a bit position of a 32-bit word. -/
def bitAt (pos : Nat) (b : Bool) : Word := (if b then 1#32 else 0#32) <<< pos

/-- `STATUS` (R41). -/
def State.status (s : State) : Word :=
  bitAt 0 s.busy ||| bitAt 1 s.tv ||| (s.ws.code.setWidth 32 <<< 2) ||| bitAt 5 s.incomplete ||| bitAt 6 s.sigok |||
    bitAt 7 s.short ||| bitAt 8 s.crcbad ||| bitAt 9 s.hcsbad ||| bitAt 10 s.refused ||| bitAt 11 s.exitCode |||
    (s.cause.code.setWidth 32 <<< 12)

end Sys2Proof.Machine
end

