-- ==== Sys2Proof/Machine/Crc.lean ====
section
/-! DEFINITION. The CRC-32 engine: `CRC.BUILD` and `CRC.COMPUTE` (40_crc32_engine.md). -/

namespace Sys2Proof.Machine

/-- `POLY32` (R6). -/
def poly32 : Word := 0xEDB88320#32

/-- `CRC_SEED` (R6). -/
def crcSeed : Word := 0xFFFFFFFF#32

/-- One table iteration (R130). -/
def iter32 (c : Word) : Word := if c.getLsbD 0 then (c >>> 1) ^^^ poly32 else c >>> 1

/-- Eight table iterations. -/
def iter32x8 (c : Word) : Word := iter32 (iter32 (iter32 (iter32 (iter32 (iter32 (iter32 (iter32 c)))))))

/-- The table entry for byte value `i` (R131). -/
def tbl (i : Nat) : Word := iter32x8 (BitVec.ofNat 32 i)

/-- The 256 entries (R132). -/
def builtTable : List Word := (List.range 256).map tbl

/-- `CRC.BUILD`'s rule (R133). -/
def crcBuildRule (s : State) : Flow := .goes { s with table := builtTable, tv := true }

/-- One byte update (R134). -/
def crcUpdate (table : List Word) (c : Word) (b : Byte) : Word :=
  table.getD ((c ^^^ b.setWidth 32) &&& 0xFF#32).toNat 0#32 ^^^ (c >>> 8)

/-- The loop of a CRC run (R135): at most `n` more bytes, one `StreamRead(1)` each, ended early by the end of the
stream. -/
def crcLoop (table : List Word) (m : List Host.Cell) (len : Nat) : Nat → CrcRun → CrcRun
  | 0, a => a
  | n + 1, a =>
    match streamBytes m len a.cur 1 with
    | [] => a
    | b :: _ => crcLoop table m len n { crc := crcUpdate table a.crc b, cnt := a.cnt + 1, cur := a.cur + 1 }

/-- A CRC run over the stream with bound `MAXB`, and its digest (R135, R136). -/
def crcRun (s : State) : State :=
  let a := crcLoop s.table s.mem s.fileLen s.maxb.toNat { crc := crcSeed, cnt := 0, cur := s.cur }
  { s with crc := a.crc, cnt := a.cnt, cur := a.cur, crcout := ~~~a.crc }

/-- `CRC.COMPUTE`'s rule (R137). -/
def crcComputeRule (s : State) : Flow := .goes (crcRun s)

/-- `CRC.BUILD` (R133). -/
def execCrcBuild (s : State) : Result := command unitAccepts alwaysReady crcBuildRule s

/-- `CRC.COMPUTE` (R137). -/
def execCrcCompute (s : State) : Result := command unitAccepts needsTable crcComputeRule s

end Sys2Proof.Machine
end

