-- ==== Sys2Proof/Machine/Hcs.lean ====
section
/-! DEFINITION. The header checksum unit: `HCS.COMPUTE` (41_header_checksum.md). -/

namespace Sys2Proof.Machine

/-- `POLY8` (R6). -/
def poly8 : Byte := 0x8C#8

/-- One bit step on (`RES`, `DAT`) (R160). -/
def hcsBitStep (p : Byte × Byte) : Byte × Byte :=
  (if (p.1 ^^^ p.2).getLsbD 0 then (p.1 >>> 1) ^^^ poly8 else p.1 >>> 1, p.2 >>> 1)

/-- One byte step on (`RES`, `DAT`): `DAT` is loaded, then eight bit steps (R161). -/
def hcsByteStep (p : Byte × Byte) (b : Byte) : Byte × Byte :=
  hcsBitStep (hcsBitStep (hcsBitStep (hcsBitStep (hcsBitStep (hcsBitStep (hcsBitStep (hcsBitStep (p.1, b))))))))

/-- (`RES`, `DAT`) after the bytes of `B` in ascending order, from `RES = seed` (R162). -/
def hcsRun (seed dat : Byte) (B : List Byte) : Byte × Byte := B.foldl hcsByteStep (seed, dat)

/-- `hcs(B)` (R162). It does not depend on `DAT`'s value before. -/
def hcs (seed : Byte) (B : List Byte) : Byte := (hcsRun seed 0#8 B).1

/-- `HCSOUT <- hcs(HB[5..23])`, with what the run leaves in `RES` and `DAT` (R163, R161). -/
def hcsOverHb (s : State) : State :=
  let p := hcsRun s.params.hcsSeed s.dat (checksumRange s.hb)
  { s with res := p.1, dat := p.2, hcsout := p.1 }

/-- `HCS.COMPUTE`'s rule (R163). -/
def hcsComputeRule (s : State) : Flow := .goes (hcsOverHb s)

/-- `HCS.COMPUTE` (R163). -/
def execHcsCompute (s : State) : Result := command unitAccepts needsWholeV2 hcsComputeRule s

end Sys2Proof.Machine
end

