-- ==== Sys2Proof/Machine/Repair.lean ====
section
/-! DEFINITION. The repair writer: the correction, the write-back and `RPR.REWRITE` (44_repair_writer.md). -/

namespace Sys2Proof.Machine

/-- Put bytes at the front of the header buffer; the rest stays (R261). -/
def patchHb (B : List Byte) (s : State) : State := { s with hb := B ++ s.hb.drop B.length }

/-- The corrected fields of the header (R261): the CRC always, the length under `WriteObserved`. -/
def correctedHeader (s : State) : DecodedHeader :=
  match s.params.repairLenPolicy with
  | .keepDeclared => s.dh.withCrc32 s.crcout
  | .writeObserved => (s.dh.withCrc32 s.crcout).withLength s.cnt

/-- Correct the fields and encode them into the buffer (R261, first three lines). -/
def correctFields (s : State) : State := patchHb (correctedHeader s).bytes { s with dh := correctedHeader s }

/-- Recompute the header checksum over the updated bytes and store it (R261, last lines; V2 only). -/
def recomputeChecksum (s : State) : State :=
  let t := hcsOverHb s
  { t with dh := t.dh.withChecksum t.hcsout, hb := t.hb.set 4 t.hcsout }

/-- The correction of the header (R261). -/
def correctHeader (s : State) : State :=
  match s.dh with
  | .v2 _ => recomputeChecksum (correctFields s)
  | .v1 _ => correctFields s
  | .none => correctFields s

/-- The stage an answer fails at, if it fails (R263). -/
def failedStage : PortAnswer → Option RepairStage
  | .ok => none
  | .failSeek => some .seek
  | .failWrite => some .write
  | .failSeekBack => some .seekBack

/-- The answer to a rewrite of `n` bytes at `HOFF`: forced to `FailWrite` where the write would pass the end of the
file (R265; compared as numbers, log 20) or the port has no write access (R331), else the storage port's. -/
def rewriteAnswer (access : Bool) (n : Nat) (s : State) : PortAnswer × State :=
  if !access || decide (s.fileLen < s.hoff + n) then (.failWrite, s) else drawAnswer s

/-- Write the first `n` bytes of the header buffer to the file at `HOFF` (R263). `access` is whether the storage port
will take a write. -/
def rewriteHeader (access : Bool) (n : Nat) (s : State) : Flow :=
  let s := { s with saved := s.cur }
  let (o, s) := rewriteAnswer access n s
  match failedStage o with
  | none => .goes { s with mem := memWrite s.mem s.hoff (s.hb.take n), cur := s.saved }
  | some stage => .ended (raiseFatal (emit (.repairFatal s.hoff stage) s))

/-- `RPR.REWRITE`'s rule (R264): the host that issues it is taken to have write access, so the grant is not
consulted. -/
def rprRewriteRule (s : State) : Flow := rewriteHeader true s.hbn.toNat s

/-- `RPR.REWRITE` (R264). -/
def execRprRewrite (s : State) : Result := command unitAccepts needsWholeHeader rprRewriteRule s

end Sys2Proof.Machine
end

