-- ==== Sys2Proof/Machine/Walk.lean ====
section
/-! DEFINITION. The block walker: `WALK.PROBE`, `WALK.STEP`, `WALK.RUN`, step by step (43_block_walker.md). -/

namespace Sys2Proof.Machine

/-! ### The probe -/

/-- The size of the probe window, `PROBE_SIZE` (R6). -/
def probeSize : Nat := 24

/-- The window the probe peeks at; the cursor does not move (R212). -/
def probeWindow (s : State) : List Byte := streamBytes s.mem s.fileLen s.cur probeSize

/-- `WALK.PROBE`'s rule (R212). -/
def walkProbeRule (s : State) : Flow :=
  let W := probeWindow s
  let s := { s with re := s.repairEn }
  if W.length < s.params.probeMin then
    .ended (stopError .probeUnreadable (emit (.probeUnreadable s.cur W.length) s))
  else if le32 W 0 = sigV2 then .goes { s with ws := .scanningV2 }
  else if le16 W 0 = sigV1 then .goes { s with ws := .scanningV1 }
  else .ended (stopError .probeUnrecognized (emit (.probeUnrecognized s.cur (le32 W 0)) s))

/-! ### One block -/

/-- S1: `HOFF <- CUR` (R215). -/
def recordOffset (s : State) : State := { s with hoff := s.cur }

/-- S2, from the bytes the header read returned (R216). `n` is the size of a header in the present mode. -/
def loadHeader (n : Nat) (B : List Byte) (s : State) : Flow :=
  let s := loadHb B s
  if B.length = 0 then .ended (stopClean (emit (.cleanEnd s.hoff) s))
  else if B.length < n then
    .ended (stopError .incompleteHeader { emit (.incompleteHeader s.hoff B.length) s with incomplete := true })
  else .goes s

/-- The header as the mode decodes it (R217). -/
def decodeByMode (s : State) : DecodedHeader :=
  match s.ws with
  | .scanningV1 => DecodedHeader.ofV1 (decV1 (s.hb.take sizeV1))
  | .scanningV2 => DecodedHeader.ofV2 (decV2 (s.hb.take sizeV2))
  | .idle => .none
  | .stoppedClean => .none
  | .stoppedError => .none
  | .fatal => .none

/-- S3: decode, then check the signature (R217, R218). -/
def decodeAndCheck (s : State) : Flow :=
  let s := { s with dh := decodeByMode s, incomplete := false, sigok := signatureOk (decodeByMode s) }
  if s.sigok then .goes s
  else .ended (stopError .badSignature (emit (.badSignature s.hoff s.dh.signature s.dh) s))

/-- S5: the header checksum, V2 only (R219). -/
def checkHeaderChecksum (s : State) : State :=
  match s.dh with
  | .v2 h =>
    let t := hcsOverHb s
    { t with hcsbad := hcsBadFlag t.hcsout h.headerChecksum }
  | .v1 _ => { s with hcsbad := false }
  | .none => { s with hcsbad := false }

/-- S6: payload CRC and byte count (R220). -/
def checkPayload (s : State) : State :=
  let t := crcRun { s with maxb := s.dh.declaredDataLength }
  { t with short := shortFlag t.cnt t.dh.declaredDataLength }

/-- S7: CRC comparison (R221). -/
def compareCrc (s : State) : State := { s with crcbad := crcBadFlag s.crcout s.dh.declaredDataCrc32 }

/-- The record of the block last examined (R228). -/
def blockRecord (s : State) : BlockRecord where
  format := s.dh.tag
  headerOffset := s.hoff
  signature := s.dh.signature
  headerChecksumStored := s.dh.asV2.map HeaderV2.headerChecksum
  headerChecksumComputed := s.dh.asV2.map fun _ => s.hcsout
  hcsMismatch := s.dh.asV2.map fun _ => s.hcsbad
  blockType := s.dh.blockType
  blockTypeTag := blockTypeTag s.dh.tag s.dh.blockType
  unknown3 := s.dh.asV1.map HeaderV1.unknown3
  reserved := s.dh.asV1.map HeaderV1.reserved
  hardwareRevision := s.dh.asV2.map HeaderV2.hardwareRevision
  unknownField0x14 := s.dh.asV2.map HeaderV2.unknownField0x14
  deviceType := s.dh.asV2.map HeaderV2.deviceType
  deviceTypeTag := s.dh.asV2.bind fun h => deviceTypeTag h.deviceType
  firmwareVersion := s.dh.firmwareVersion
  major := versionMajor s.dh.firmwareVersion
  minor := versionMinor s.dh.firmwareVersion
  patch := versionPatch s.dh.firmwareVersion
  declaredDataLength := s.dh.declaredDataLength
  observedByteCount := s.cnt
  shortfall := s.short
  declaredDataCrc32 := s.dh.declaredDataCrc32
  observedCrc32 := s.crcout
  crcMismatch := s.crcbad
  payloadOffset := s.hoff + modeSize s.ws

/-- S4 and S8: the record shows the block as found (R222). -/
def reportBlock (s : State) : State := emit (.block (blockRecord s)) s

/-- S5 to S8, which have no stop (R225). -/
def examineBlock (s : State) : State := reportBlock (compareCrc (checkPayload (checkHeaderChecksum s)))

/-- S9: repair, if enabled and there is a mismatch (R223, R260). A storage port without write access fails the write
(R331). -/
def repairBlock (s : State) : Flow :=
  if s.re && anyMismatch s then
    let t := correctHeader s
    rewriteHeader t.writeAccess (modeSize t.ws) t
  else .goes s

/-- S10: go on, or stop on a shortfall (R224). -/
def continueOrStop (s : State) : Flow :=
  if s.short then .ended (stopError .payloadShortfall s) else .goes s

/-- S2 to S10 from the bytes of the header read (R214, R225). -/
def examine (B : List Byte) (s : State) : Flow :=
  (((loadHeader (modeSize s.ws) B s).andThen decodeAndCheck).andThen fun t => repairBlock (examineBlock t)).andThen
    continueOrStop

/-- `WALK.STEP`'s rule (R214): S1, the header read, and the rest. -/
def walkStepRule (s : State) : Flow :=
  let s := recordOffset s
  let (B, s) := streamRead (modeSize s.ws) s
  examine B s

/-- `WALK.STEP` repeated while the walker goes on, at most `n` times (R230). -/
def scanLoop : Nat → State → Flow
  | 0, s => .goes s
  | n + 1, s => (walkStepRule s).andThen (scanLoop n)

/-- The most `WALK.STEP`s a scan makes, `floor(L / 20) + 1` (R226). DEDUCED, log 21: a bound, not a cut. -/
def scanBound (s : State) : Nat := s.fileLen / 20 + 1

/-- `WALK.RUN`'s rule (R230). -/
def walkRunRule (s : State) : Flow := (walkProbeRule s).andThen fun t => scanLoop (scanBound t) t

/-- `WALK.PROBE` (R212). -/
def execWalkProbe (s : State) : Result := command startAccepts needsTable walkProbeRule s

/-- `WALK.STEP` (R214). -/
def execWalkStep (s : State) : Result := command scanAccepts alwaysReady walkStepRule s

/-- `WALK.RUN` (R230). -/
def execWalkRun (s : State) : Result := command startAccepts needsTable walkRunRule s

end Sys2Proof.Machine
end

