-- ==== Sys2Proof/Machine/Block.lean ====
section
/-! DEFINITION. The words of the instruction stream: a V1 or a V2 block header met at the cursor (30_encoding.md R90,
R97, R102; 43_block_walker.md R214). log 15. -/

namespace Sys2Proof.Machine

/-- What the header read of the present mode returns at the cursor when the header word with bytes `w` stands there:
the word's bytes, cut to the mode's size, or followed by the file's next bytes where the mode's header is longer. -/
def headerReadOver (w : List Byte) (s : State) : List Byte :=
  (w ++ streamBytes s.mem s.fileLen (s.cur + w.length) (modeSize s.ws - w.length)).take
    (modeSize s.ws)

/-- The rule of a block (R214): S1 and the header read with the word `w` at the cursor, then S2 to S10. -/
def blockRule (w : List Byte) (s : State) : Flow :=
  let B := headerReadOver w s
  examine B { recordOffset s with cur := s.cur + B.length }

/-- `BLOCK.V1`: the walker examines the block whose header word is `h` (R214 to R224). Outside a scan no block is
examined (R107). In `ScanningV2` its signature is bad (R102). -/
def execBlockV1 (h : HeaderV1) (s : State) : Result := command scanAccepts alwaysReady (blockRule (encV1 h)) s

/-- `BLOCK.V2`: the walker examines the block whose header word is `h` (R214 to R224). In `ScanningV1` its signature is
bad (R102). -/
def execBlockV2 (h : HeaderV2) (s : State) : Result := command scanAccepts alwaysReady (blockRule (encV2 h)) s

end Sys2Proof.Machine
end

