-- ==== Sys2Proof/Machine/Hdr.lean ====
section
/-! DEFINITION. The header decoder: `HDR.DEC1`, `HDR.DEC2`, `HDR.VSIG`, `HDR.ENC` (42_header_codec.md). -/

namespace Sys2Proof.Machine

/-- `HDR.DEC1`'s rule (R182). -/
def hdrDec1Rule (s : State) : Flow :=
  .goes { s with incomplete := (decV1 (validHeader s)).isNone, dh := DecodedHeader.ofV1 (decV1 (validHeader s)) }

/-- `HDR.DEC2`'s rule (R183). -/
def hdrDec2Rule (s : State) : Flow :=
  .goes { s with incomplete := (decV2 (validHeader s)).isNone, dh := DecodedHeader.ofV2 (decV2 (validHeader s)) }

/-- `HDR.VSIG`'s rule (R185). -/
def hdrVsigRule (s : State) : Flow := .goes { s with sigok := signatureOk s.dh }

/-- `HDR.ENC`'s rule (R186). -/
def hdrEncRule (s : State) : Flow := .goes (loadHb s.dh.bytes s)

/-- `HDR.DEC1` (R182). -/
def execHdrDec1 (s : State) : Result := command unitAccepts alwaysReady hdrDec1Rule s

/-- `HDR.DEC2` (R183). -/
def execHdrDec2 (s : State) : Result := command unitAccepts alwaysReady hdrDec2Rule s

/-- `HDR.VSIG` (R185). -/
def execHdrVsig (s : State) : Result := command unitAccepts needsDecoded hdrVsigRule s

/-- `HDR.ENC` (R186). -/
def execHdrEnc (s : State) : Result := command unitAccepts needsDecoded hdrEncRule s

end Sys2Proof.Machine
end

