-- ==== Sys2Proof/Machine/Reserved.lean ====
section
/-! DEFINITION. The five reserved codes of `CMD` (30_encoding.md R106): refused with `REF_BADOP`, a next state. -/

namespace Sys2Proof.Machine

/-- `RESERVED`, code `0x0` (R106). -/
def execReserved0 (s : State) : Result := reservedCode s

/-- `RESERVED`, code `0xC` (R106). -/
def execReservedC (s : State) : Result := reservedCode s

/-- `RESERVED`, code `0xD` (R106). -/
def execReservedD (s : State) : Result := reservedCode s

/-- `RESERVED`, code `0xE` (R106). -/
def execReservedE (s : State) : Result := reservedCode s

/-- `RESERVED`, code `0xF` (R106). -/
def execReservedF (s : State) : Result := reservedCode s

end Sys2Proof.Machine
end

