-- ==== Sys2Proof/Machine/Dispatch.lean ====
section
/-! DEFINITION. One arm per constructor of Instr, each one direct call of the instruction's meaning. -/

namespace Sys2Proof.Machine

def exec (i : Instr) (s : State) : Host.Outcome State Fault Refusal :=
  match i with
  | .blockV1 h => Sys2Proof.Machine.execBlockV1 h s
  | .blockV2 h => Sys2Proof.Machine.execBlockV2 h s
  | .crcBuild => Sys2Proof.Machine.execCrcBuild s
  | .crcCompute => Sys2Proof.Machine.execCrcCompute s
  | .hcsCompute => Sys2Proof.Machine.execHcsCompute s
  | .hdrDec1 => Sys2Proof.Machine.execHdrDec1 s
  | .hdrDec2 => Sys2Proof.Machine.execHdrDec2 s
  | .hdrVsig => Sys2Proof.Machine.execHdrVsig s
  | .hdrEnc => Sys2Proof.Machine.execHdrEnc s
  | .walkProbe => Sys2Proof.Machine.execWalkProbe s
  | .walkStep => Sys2Proof.Machine.execWalkStep s
  | .walkRun => Sys2Proof.Machine.execWalkRun s
  | .rprRewrite => Sys2Proof.Machine.execRprRewrite s
  | .reserved0 => Sys2Proof.Machine.execReserved0 s
  | .reservedC => Sys2Proof.Machine.execReservedC s
  | .reservedD => Sys2Proof.Machine.execReservedD s
  | .reservedE => Sys2Proof.Machine.execReservedE s
  | .reservedF => Sys2Proof.Machine.execReservedF s

end Sys2Proof.Machine
end

