-- ==== Sys2Proof/Machine/HostPort.lean ====
section
/-! DEFINITION. The host's port: the numbered registers, their reading and writing (10_state.md R36 to R43), and the
host inputs that are no commands, reset among them (70_reset_and_hazards.md R320 to R322). -/

namespace Sys2Proof.Machine

/-- A field of `DH` as a register (R40). -/
inductive HeaderField where
  | signature
  | headerChecksum
  | blockType
  | unknown3
  | reserved
  | hardwareRevision
  | firmwareVersion
  | declaredDataCrc32
  | declaredDataLength
  | unknownField0x14
  | deviceType
deriving DecidableEq, Repr

/-- A numbered register (R36). -/
inductive HostReg where
  | cmd
  | status
  | cfg
  | cur
  | hoff
  | maxb
  | crcout
  | cnt
  | hcsout
  | hbn
  | crc
  | rptn
  | hb (k : Nat)
  | dhTag
  | dhField (f : HeaderField)
  | table (i : Nat)
  | unlisted
deriving DecidableEq, Repr

/-- The register a number names (R36, R40). Numbers not listed are reserved. -/
def hostReg (n : Nat) : HostReg :=
  if n = 0x00 then .cmd
  else if n = 0x01 then .status
  else if n = 0x02 then .cfg
  else if n = 0x03 then .cur
  else if n = 0x04 then .hoff
  else if n = 0x05 then .maxb
  else if n = 0x06 then .crcout
  else if n = 0x07 then .cnt
  else if n = 0x08 then .hcsout
  else if n = 0x09 then .hbn
  else if n = 0x0A then .crc
  else if n = 0x0B then .rptn
  else if 0x10 ≤ n ∧ n < 0x28 then .hb (n - 0x10)
  else if n = 0x30 then .dhTag
  else if n = 0x31 then .dhField .signature
  else if n = 0x32 then .dhField .headerChecksum
  else if n = 0x33 then .dhField .blockType
  else if n = 0x34 then .dhField .unknown3
  else if n = 0x35 then .dhField .reserved
  else if n = 0x36 then .dhField .hardwareRevision
  else if n = 0x37 then .dhField .firmwareVersion
  else if n = 0x38 then .dhField .declaredDataCrc32
  else if n = 0x39 then .dhField .declaredDataLength
  else if n = 0x3A then .dhField .unknownField0x14
  else if n = 0x3B then .dhField .deviceType
  else if 0x100 ≤ n ∧ n < 0x200 then .table (n - 0x100)
  else .unlisted

/-! ### Reading -/

/-- The code of `DH.tag` (R40). -/
def HeaderTag.code : HeaderTag → BitVec 2
  | .none => 0#2
  | .v1 => 1#2
  | .v2 => 2#2

/-- A field of a V1 header; as a number; a field the tag does not have reads as 0 (R40). -/
def readFieldV1 (h : HeaderV1) : HeaderField → Nat
  | .signature => h.signature.toNat
  | .headerChecksum => 0
  | .blockType => h.blockType.toNat
  | .unknown3 => h.unknown3.toNat
  | .reserved => h.reserved.toNat
  | .hardwareRevision => 0
  | .firmwareVersion => h.firmwareVersion.toNat
  | .declaredDataCrc32 => h.declaredDataCrc32.toNat
  | .declaredDataLength => h.declaredDataLength.toNat
  | .unknownField0x14 => 0
  | .deviceType => 0

/-- A field of a V2 header; as a number (R40). -/
def readFieldV2 (h : HeaderV2) : HeaderField → Nat
  | .signature => h.signature.toNat
  | .headerChecksum => h.headerChecksum.toNat
  | .blockType => h.blockType.toNat
  | .unknown3 => 0
  | .reserved => 0
  | .hardwareRevision => h.hardwareRevision.toNat
  | .firmwareVersion => h.firmwareVersion.toNat
  | .declaredDataCrc32 => h.declaredDataCrc32.toNat
  | .declaredDataLength => h.declaredDataLength.toNat
  | .unknownField0x14 => h.unknownField0x14.toNat
  | .deviceType => h.deviceType.toNat

/-- A field of `DH` (R40). -/
def readField (d : DecodedHeader) (f : HeaderField) : Nat :=
  match d with
  | .none => 0
  | .v1 h => readFieldV1 h f
  | .v2 h => readFieldV2 h f

/-- `CFG` (R38): bits 31:1 read as 0. -/
def State.cfg (s : State) : Word := bitAt 0 s.repairEn

/-- `RPTN` (R39). Above `2^32 - 1` records the spec states no value: a free value (DESIGN CHOICE, log 17). -/
def State.rptn (s : State) : Word :=
  if s.rpt.length < 2 ^ 32 then BitVec.ofNat 32 s.rpt.length else Config.freeRecordCount s.rpt.length

/-- What the host reads from a register, as a number (R36; log 16). Reading changes nothing (R70, R78). `CMD` is
write only (R37), so a read of it has no value: `none`. -/
def State.readRegister (s : State) (n : Nat) : Option Nat :=
  match hostReg n with
  | .cmd => none
  | .status => some s.status.toNat
  | .cfg => some s.cfg.toNat
  | .cur => some s.cur
  | .hoff => some s.hoff
  | .maxb => some s.maxb.toNat
  | .crcout => some s.crcout.toNat
  | .cnt => some s.cnt.toNat
  | .hcsout => some s.hcsout.toNat
  | .hbn => some s.hbn.toNat
  | .crc => some s.crc.toNat
  | .rptn => some s.rptn.toNat
  | .hb k => some (s.hb.getD k 0#8).toNat
  | .dhTag => some s.dh.tag.code.toNat
  | .dhField f => some (readField s.dh f)
  | .table i => some (s.table.getD i 0#32).toNat
  | .unlisted => some 0

/-! ### Writing -/

/-- A field of a V1 header written at its width; a field the tag does not have ignores writes (R40). -/
def writeFieldV1 (h : HeaderV1) (f : HeaderField) (v : Nat) : HeaderV1 :=
  match f with
  | .signature => { h with signature := BitVec.ofNat 16 v }
  | .headerChecksum => h
  | .blockType => { h with blockType := BitVec.ofNat 8 v }
  | .unknown3 => { h with unknown3 := BitVec.ofNat 8 v }
  | .reserved => { h with reserved := BitVec.ofNat 32 v }
  | .hardwareRevision => h
  | .firmwareVersion => { h with firmwareVersion := BitVec.ofNat 32 v }
  | .declaredDataCrc32 => { h with declaredDataCrc32 := BitVec.ofNat 32 v }
  | .declaredDataLength => { h with declaredDataLength := BitVec.ofNat 32 v }
  | .unknownField0x14 => h
  | .deviceType => h

/-- A field of a V2 header written at its width (R40). -/
def writeFieldV2 (h : HeaderV2) (f : HeaderField) (v : Nat) : HeaderV2 :=
  match f with
  | .signature => { h with signature := BitVec.ofNat 32 v }
  | .headerChecksum => { h with headerChecksum := BitVec.ofNat 8 v }
  | .blockType => { h with blockType := BitVec.ofNat 8 v }
  | .unknown3 => h
  | .reserved => h
  | .hardwareRevision => { h with hardwareRevision := BitVec.ofNat 16 v }
  | .firmwareVersion => { h with firmwareVersion := BitVec.ofNat 32 v }
  | .declaredDataCrc32 => { h with declaredDataCrc32 := BitVec.ofNat 32 v }
  | .declaredDataLength => { h with declaredDataLength := BitVec.ofNat 32 v }
  | .unknownField0x14 => { h with unknownField0x14 := BitVec.ofNat 16 v }
  | .deviceType => { h with deviceType := BitVec.ofNat 16 v }

/-- A field of `DH` written (R40). -/
def writeField (d : DecodedHeader) (f : HeaderField) (v : Nat) : DecodedHeader :=
  match d with
  | .none => .none
  | .v1 h => .v1 (writeFieldV1 h f v)
  | .v2 h => .v2 (writeFieldV2 h f v)

/-- A write of `DH.tag` (R40): the present tag's code changes nothing, 3 is ignored, another tag takes the place of the
old variant. What the new variant's fields then hold the spec does not say (R36: "unspecified"): free values
(DESIGN CHOICE, log 4). -/
def writeTag (v : Nat) (s : State) : State :=
  match v % 4, s.dh with
  | 0, _ => { s with dh := .none }
  | 1, .v1 _ => s
  | 1, .none => { s with dh := .v1 (Config.freeHeaderV1 s.draws), draws := s.draws + 1 }
  | 1, .v2 _ => { s with dh := .v1 (Config.freeHeaderV1 s.draws), draws := s.draws + 1 }
  | 2, .v2 _ => s
  | 2, .none => { s with dh := .v2 (Config.freeHeaderV2 s.draws), draws := s.draws + 1 }
  | 2, .v1 _ => { s with dh := .v2 (Config.freeHeaderV2 s.draws), draws := s.draws + 1 }
  | _, _ => s

/-- A write of a register that accepts it: the value's low bits at the register's width (log 16), read-only and
reserved registers ignore it (R36, R38, R40, R43). -/
def writeRegister (n : Nat) (v : Nat) (s : State) : State :=
  match hostReg n with
  | .cfg => { s with repairEn := v.testBit 0 }
  | .cur => { s with cur := s.params.offset v }
  | .hoff => { s with hoff := s.params.offset v }
  | .maxb => { s with maxb := BitVec.ofNat 32 v }
  | .hbn => loadHb (s.hb.take (min v 24)) s
  | .hb k => { s with hb := s.hb.set k (BitVec.ofNat 8 v) }
  | .dhTag => writeTag v s
  | .dhField f => { s with dh := writeField s.dh f v }
  | .cmd => s
  | .status => s
  | .crcout => s
  | .cnt => s
  | .hcsout => s
  | .crc => s
  | .rptn => s
  | .table _ => s
  | .unlisted => s

/-- A host write to a register other than `CMD`: ignored while `BUSY` is 1, in a scan and in `Fatal` (R43). -/
def hostWrite (n : Nat) (v : Nat) (s : State) : State :=
  if !s.busy && unitAccepts s.ws then writeRegister n v s else s

/-! ### The other inputs -/

/-- Reset as the host applies it (R320, R321): every register takes its reset value, `T` and `TV` the built table's
where it is hardwired (R29); the file, the parameters and what the outside world holds ready stay (R322; log 12). It is
the only way out of the end states (R291). -/
def resetCore (s : State) : State :=
  { State.reset with
    table := if s.params.tableHardwired then builtTable else State.reset.table
    tv := s.params.tableHardwired
    mem := s.mem
    fileLen := s.fileLen
    writeAccess := s.writeAccess
    params := s.params
    inputs := s.inputs
    answers := s.answers
    draws := s.draws }

/-- The host attaches a file (R324 step 3). In a scan that breaks the premise `file_stable` (R74, R327): the model's
fault. A file too long for `OFFSET_W` breaks `length_fits` (R211): refused (log 13). -/
def attachFile (bytes : List Byte) (s : State) : Result :=
  if scanAccepts s.ws then .fault .fileChangedDuringScan
  else if bytes.length < 2 ^ s.params.offsetW then
    .next { s with mem := memFill (fun a => byteAt bytes a) bytes.length, fileLen := bytes.length }
  else .refused .fileTooLong

end Sys2Proof.Machine
end

