-- ==== Sys2Proof/Machine/Fetch.lean ====
section
/-! DEFINITION. How the step finds its next instruction: the code the host wrote to `CMD`, or, where that code is
`WALK.STEP` in a scan, the block header at the cursor (30_encoding.md R90). And how a word of the opcode table is put
where the step fetches. -/

namespace Sys2Proof.Machine

/-- The block at the cursor, decoded by the walker's mode (R217): present when a scan is under way, no operation runs
and a whole header is left in the file. -/
def blockAtCursor (s : State) : Option Instr :=
  if s.busy then none
  else
    match s.ws with
    | .scanningV1 => (decV1 (streamBytes s.mem s.fileLen s.cur sizeV1)).map .blockV1
    | .scanningV2 => (decV2 (streamBytes s.mem s.fileLen s.cur sizeV2)).map .blockV2
    | .idle => none
    | .stoppedClean => none
    | .stoppedError => none
    | .fatal => none

/-- The instruction a code in `CMD` starts (R37, R105): `WALK.STEP` runs the block at the cursor where there is one,
every other code its operation. -/
def instrForCode (c : BitVec 4) (s : State) : Instr :=
  match decodeCode c with
  | .walkStep => (blockAtCursor s).getD .walkStep
  | i => i

/-- What one host input asks for, on the state with that input taken from the queue. -/
def fetchInput (x : HostInput) (s : State) : Fetched :=
  match x with
  | .write reg v _ =>
    if reg = 0 then .instr (instrForCode (BitVec.ofNat 4 v) s) s else .host (.next (hostWrite reg v s))
  | .attach bytes => .host (attachFile bytes s)
  | .grant access => .host (.next { s with writeAccess := access })
  | .portAnswer o => .host (.next { s with answers := s.answers ++ [o] })
  | .reset => .host (.next (resetCore s))

/-- What the step finds to do. With no input pending the core waits (R323). -/
def fetch (s : State) : Fetched :=
  match s.inputs with
  | [] => .host (.next s)
  | x :: rest => fetchInput x { s with inputs := rest }

/-- The host's next input is a write of the code `w` to `CMD`. -/
def placeCode (w : Nat) (s : State) : State :=
  { s with inputs := .write 0 w true :: s.inputs }

/-- The mode in which a header word is run: the one its signature names (R96). -/
def modeOfWord (w : Nat) : WalkState :=
  if le32 (bytesOfWord sizeV2 w) 0 = sigV2 then .scanningV2 else .scanningV1

/-- The header word `w` stands at the cursor, 24 bytes of it, in a file that holds them; a scan of its format is under
way, with the table a scan needs; and the host's next input is `WALK.STEP`. -/
def placeHeader (w : Nat) (s : State) : State :=
  { placeCode 0x9 s with
    mem := memWrite s.mem s.cur (bytesOfWord sizeV2 w)
    fileLen := if s.fileLen < s.cur + sizeV2 then s.cur + sizeV2 else s.fileLen
    table := builtTable
    tv := true
    ws := modeOfWord w }

/-- Put a word of the opcode table where the step fetches (log 10, log 15). -/
def placeFetchWord (nbits w : Nat) (s : State) : State :=
  if isCodeRow nbits then placeCode w s else placeHeader w s

end Sys2Proof.Machine
end

