-- ==== Sys2Proof/Machine/Step.lean ====
section
/-! DEFINITION. One step of the machine: take the next host input; where it names an instruction, run it. -/

namespace Sys2Proof.Machine

/-- One step (R20, R36, R37, R90; log 10). -/
def step (s : State) : Host.Outcome State Fault Refusal :=
  match fetch s with
  | .instr i t => exec i t
  | .host r => r

/-- The state `s` with a word of the opcode table where the step fetches its next instruction. -/
def State.withFetchWord (s : State) (nbits w : Nat) : State := placeFetchWord nbits w s

end Sys2Proof.Machine
end

