-- ==== Sys2Proof/Safety.lean ====
section
/-! DEFINITION. What counts as a well-formed state, as the premises of a scan, and as the end of a run. -/

/-- The parameters lie in the ranges of R7. -/
def Sys2Proof.Params.inRange (p : Sys2Proof.Params) : Bool :=
  decide (33 ≤ p.offsetW) && decide (4 ≤ p.probeMin) && decide (p.probeMin ≤ 24)

namespace Sys2Proof.Machine

/-- The shapes plain data does not carry by itself: the file's canonical form inside its length (R61), 24 bytes of
`HB`, at most 24 of them valid (R26), 256 table entries (R29), parameters in range (R7), no operation in progress
between two steps (R20), the premise `length_fits` (R211), and offsets that fit their registers (R22, R24, R25, R32). -/
def State.wf (s : State) : Bool :=
  memWf s.mem && memBelow s.mem s.fileLen && decide (s.hb.length = 24) && decide (s.hbn.toNat ≤ 24) &&
    decide (s.table.length = 256) && s.params.inRange && !s.busy && decide (s.fileLen < 2 ^ s.params.offsetW) &&
    decide (s.cur < 2 ^ s.params.offsetW) && decide (s.hoff < 2 ^ s.params.offsetW) &&
    decide (s.saved < 2 ^ s.params.offsetW)

/-- A valid table holds the constants of R132, and a scan is under way only with a valid table and a cursor inside the
file (R29, R325, R24). -/
def State.tableOk (s : State) : Prop :=
  (s.tv = true → s.table = builtTable) ∧
    (scanAccepts s.ws = true → s.tv = true ∧ s.cur ≤ s.fileLen)

/-- The exit code and the cause agree with the end the walker reached (R35, R42, R281, R283, R284). -/
def State.endOk (s : State) : Prop :=
  (s.ws = .stoppedClean → s.exitCode = false) ∧
    (s.ws = .stoppedError → s.exitCode = true ∧
      (s.cause = .probeUnreadable ∨ s.cause = .probeUnrecognized ∨ s.cause = .incompleteHeader ∨
        s.cause = .badSignature ∨ s.cause = .payloadShortfall)) ∧
    (s.ws = .fatal → s.exitCode = true ∧ s.cause = .repairIo)

/-- A record is no `Block` record of another format than `t` (R233). -/
def Record.ofFormat (t : HeaderTag) : Record → Prop
  | .block b => b.format = t
  | .probeUnreadable _ _ => True
  | .probeUnrecognized _ _ => True
  | .cleanEnd _ => True
  | .incompleteHeader _ _ => True
  | .badSignature _ _ _ => True
  | .repairFatal _ _ => True

/-- The header offsets of the `Block` records of a log, in its order. -/
def blockOffsets : List Record → List Nat
  | [] => []
  | .block b :: rest => b.headerOffset :: blockOffsets rest
  | .probeUnreadable _ _ :: rest => blockOffsets rest
  | .probeUnrecognized _ _ :: rest => blockOffsets rest
  | .cleanEnd _ :: rest => blockOffsets rest
  | .incompleteHeader _ _ :: rest => blockOffsets rest
  | .badSignature _ _ _ :: rest => blockOffsets rest
  | .repairFatal _ _ :: rest => blockOffsets rest

/-- The log of one scan (R233): empty before a scan; in a scan every `Block` record has the mode's format and lies
below the cursor; all `Block` records have one format, and their header offsets ascend. -/
def State.logOk (s : State) : Prop :=
  (s.ws = .idle → s.rpt = []) ∧
    (s.ws = .scanningV1 → ∀ r ∈ s.rpt, r.ofFormat .v1) ∧
    (s.ws = .scanningV2 → ∀ r ∈ s.rpt, r.ofFormat .v2) ∧
    ((∀ r ∈ s.rpt, r.ofFormat .v1) ∨ (∀ r ∈ s.rpt, r.ofFormat .v2)) ∧
    (scanAccepts s.ws = true → ∀ o ∈ blockOffsets s.rpt, o < s.cur) ∧
    (blockOffsets s.rpt).Pairwise (· < ·)

/-- The end of a run (R336). -/
def State.runEnded (s : State) : Bool :=
  !s.busy && (decide (s.ws = .stoppedClean) || decide (s.ws = .stoppedError))

/-! ### The terms the statements use -/

/-- The accumulator after the bytes of a sequence, by the table (R138). -/
def crcFold (table : List Word) (B : List Byte) : Word := B.foldl (crcUpdate table) 0xFFFFFFFF#32

/-- The accumulator after the bytes of a sequence, bit by bit, without a table (R139). -/
def crcBitSerial (B : List Byte) : Word := B.foldl (fun c b => iter32x8 (c ^^^ b.setWidth 32)) 0xFFFFFFFF#32

/-- The byte sequence with bit `j` of byte `k` flipped. -/
def flipBit (B : List Byte) (k j : Nat) : List Byte := B.set k (B.getD k 0#8 ^^^ (1#8 <<< j))

/-- The rows of R107: in which walker states each operation is accepted. A block is accepted where `WALK.STEP` is;
reserved codes nowhere. -/
def admits : Instr → WalkState → Bool
  | .crcBuild, ws => ws == .idle || ws == .stoppedClean || ws == .stoppedError
  | .crcCompute, ws => ws == .idle || ws == .stoppedClean || ws == .stoppedError
  | .hcsCompute, ws => ws == .idle || ws == .stoppedClean || ws == .stoppedError
  | .hdrDec1, ws => ws == .idle || ws == .stoppedClean || ws == .stoppedError
  | .hdrDec2, ws => ws == .idle || ws == .stoppedClean || ws == .stoppedError
  | .hdrVsig, ws => ws == .idle || ws == .stoppedClean || ws == .stoppedError
  | .hdrEnc, ws => ws == .idle || ws == .stoppedClean || ws == .stoppedError
  | .rprRewrite, ws => ws == .idle || ws == .stoppedClean || ws == .stoppedError
  | .walkProbe, ws => ws == .idle
  | .walkRun, ws => ws == .idle
  | .walkStep, ws => ws == .scanningV1 || ws == .scanningV2
  | .blockV1 _, ws => ws == .scanningV1 || ws == .scanningV2
  | .blockV2 _, ws => ws == .scanningV1 || ws == .scanningV2
  | .reserved0, _ => false
  | .reservedC, _ => false
  | .reservedD, _ => false
  | .reservedE, _ => false
  | .reservedF, _ => false

/-- Whether an instruction is one of the five reserved codes (R106). -/
def isReserved : Instr → Bool
  | .reserved0 => true
  | .reservedC => true
  | .reservedD => true
  | .reservedE => true
  | .reservedF => true
  | .blockV1 _ => false
  | .blockV2 _ => false
  | .crcBuild => false
  | .crcCompute => false
  | .hcsCompute => false
  | .hdrDec1 => false
  | .hdrDec2 => false
  | .hdrVsig => false
  | .hdrEnc => false
  | .walkProbe => false
  | .walkStep => false
  | .walkRun => false
  | .rprRewrite => false

/-- `WALK.STEP` issued by the host again and again while a scan is under way, at most `n` times (R230, R324). -/
def stepWhileScanning : Nat → State → Result
  | 0, s => .next s
  | n + 1, s =>
    if scanAccepts s.ws then
      match exec .walkStep s with
      | .next t => stepWhileScanning n t
      | .fault r => .fault r
      | .refused r => .refused r
    else .next s

/-- The record of a V1 block (R228) whose header `h` stands at `off`, with observed byte count `cnt` and observed CRC
`crc`. -/
def blockRecordV1 (h : HeaderV1) (off : Nat) (cnt crc : Word) : BlockRecord where
  format := .v1
  headerOffset := off
  signature := .v1 h.signature
  headerChecksumStored := none
  headerChecksumComputed := none
  hcsMismatch := none
  blockType := h.blockType
  blockTypeTag := if h.blockType = 1#8 then some .cpu else if h.blockType = 2#8 then some .ble else none
  unknown3 := some h.unknown3
  reserved := some h.reserved
  hardwareRevision := none
  unknownField0x14 := none
  deviceType := none
  deviceTypeTag := none
  firmwareVersion := h.firmwareVersion
  major := h.firmwareVersion.extractLsb' 24 8
  minor := h.firmwareVersion.extractLsb' 16 8
  patch := h.firmwareVersion.extractLsb' 0 16
  declaredDataLength := h.declaredDataLength
  observedByteCount := cnt
  shortfall := decide (cnt < h.declaredDataLength)
  declaredDataCrc32 := h.declaredDataCrc32
  observedCrc32 := crc
  crcMismatch := decide (crc ≠ h.declaredDataCrc32)
  payloadOffset := off + 20

/-- The record of a V2 block (R228) whose header `h` stands at `off`, with computed header checksum `sum`, observed
byte count `cnt` and observed CRC `crc`. -/
def blockRecordV2 (h : HeaderV2) (off : Nat) (sum : Byte) (cnt crc : Word) : BlockRecord where
  format := .v2
  headerOffset := off
  signature := .v2 h.signature
  headerChecksumStored := some h.headerChecksum
  headerChecksumComputed := some sum
  hcsMismatch := some (decide (sum ≠ h.headerChecksum))
  blockType := h.blockType
  blockTypeTag :=
    if h.blockType = 0#8 then some .cpu
    else if h.blockType = 1#8 then some .ble
    else if h.blockType = 2#8 then some .extRom
    else none
  unknown3 := none
  reserved := none
  hardwareRevision := some h.hardwareRevision
  unknownField0x14 := some h.unknownField0x14
  deviceType := some h.deviceType
  deviceTypeTag :=
    if h.deviceType = 4#16 then some .mjdjj02fy else if h.deviceType = 5#16 then some .mjdjj03fy else none
  firmwareVersion := h.firmwareVersion
  major := h.firmwareVersion.extractLsb' 24 8
  minor := h.firmwareVersion.extractLsb' 16 8
  patch := h.firmwareVersion.extractLsb' 0 16
  declaredDataLength := h.declaredDataLength
  observedByteCount := cnt
  shortfall := decide (cnt < h.declaredDataLength)
  declaredDataCrc32 := h.declaredDataCrc32
  observedCrc32 := crc
  crcMismatch := decide (crc ≠ h.declaredDataCrc32)
  payloadOffset := off + 24

/-- The payload bytes present behind a header of `n` bytes at the cursor, at most `len` of them (R97, R220). -/
def payloadAt (s : State) (n : Nat) (len : Word) : List Byte :=
  streamBytes s.mem s.fileLen (s.cur + n) len.toNat

/-- What examining the V1 block `h` at the cursor leaves before S9 and S10 (R215 to R222): the state `accept s` with
the registers those steps write. -/
def examinedV1 (h : HeaderV1) (s : State) : State :=
  let B := payloadAt s 20 h.declaredDataLength
  let crc := crcFold s.table B
  let cnt := BitVec.ofNat 32 B.length
  { accept s with
    hoff := s.cur
    hb := headerBuffer s.draws (encV1 h)
    hbn := 20#5
    draws := s.draws + 1
    dh := .v1 h
    incomplete := false
    sigok := true
    hcsbad := false
    maxb := h.declaredDataLength
    crc := crc
    crcout := ~~~crc
    cnt := cnt
    cur := s.cur + 20 + B.length
    short := decide (cnt < h.declaredDataLength)
    crcbad := decide (~~~crc ≠ h.declaredDataCrc32)
    rpt := s.rpt ++ [.block (blockRecordV1 h s.cur cnt (~~~crc))] }

/-- What examining the V2 block `h` at the cursor leaves before S9 and S10 (R215 to R222). -/
def examinedV2 (h : HeaderV2) (s : State) : State :=
  let B := payloadAt s 24 h.declaredDataLength
  let crc := crcFold s.table B
  let cnt := BitVec.ofNat 32 B.length
  let sum := hcs s.params.hcsSeed ((encV2 h).drop 5)
  { accept s with
    hoff := s.cur
    hb := encV2 h
    hbn := 24#5
    draws := s.draws + 1
    dh := .v2 h
    incomplete := false
    sigok := true
    res := sum
    dat := 0#8
    hcsout := sum
    hcsbad := decide (sum ≠ h.headerChecksum)
    maxb := h.declaredDataLength
    crc := crc
    crcout := ~~~crc
    cnt := cnt
    cur := s.cur + 24 + B.length
    short := decide (cnt < h.declaredDataLength)
    crcbad := decide (~~~crc ≠ h.declaredDataCrc32)
    rpt := s.rpt ++ [.block (blockRecordV2 h s.cur sum cnt (~~~crc))] }

/-- S10 and the end of the operation (R224, R283): on a shortfall the walker stops, else the scan goes on. -/
def settled (x : State) : State :=
  if x.short then
    { x with ws := .stoppedError, cause := .payloadShortfall, exitCode := true, busy := false }
  else { x with busy := false }

/-- The corrected V1 header (R261): the observed CRC, and under `WriteObserved` the observed length. -/
def correctedV1 (p : RepairLenPolicy) (h : HeaderV1) (cnt crc : Word) : HeaderV1 :=
  { h with
    declaredDataCrc32 := crc
    declaredDataLength := match p with
      | .keepDeclared => h.declaredDataLength
      | .writeObserved => cnt }

/-- The corrected V2 header (R261): the observed CRC, under `WriteObserved` the observed length, and the checksum over
the bytes so updated. -/
def correctedV2 (p : RepairLenPolicy) (seed : Byte) (h : HeaderV2) (cnt crc : Word) : HeaderV2 :=
  let h' : HeaderV2 :=
    { h with
      declaredDataCrc32 := crc
      declaredDataLength := match p with
        | .keepDeclared => h.declaredDataLength
        | .writeObserved => cnt }
  { h' with headerChecksum := hcs seed ((encV2 h').drop 5) }

/-- The offsets inside a header that a correction can change (R262): by mode, whether `WriteObserved` holds together
with `SHORT`, and offset. -/
def correctable (ws : WalkState) (writesLength : Bool) (k : Nat) : Bool :=
  match ws with
  | .scanningV1 => (12 ≤ k && k < 16) || (writesLength && 8 ≤ k && k < 12)
  | .scanningV2 => (12 ≤ k && k < 16) || k == 4 || (writesLength && 16 ≤ k && k < 20)
  | .idle => false
  | .stoppedClean => false
  | .stoppedError => false
  | .fatal => false

end Sys2Proof.Machine
end

