-- ==== Sys2Proof/Certificates/Slice0/Obligations.lean ====
section
/-! DEFINITION. The statements for the provers, one definition each. Every docstring names the rule of spec/ the
statement formalises, or says that it is the model's choice and names the log entry. -/

open Sys2Proof Sys2Proof.Machine

/-! ### Reset and the end states -/

/-- R321, R322: the machine right after reset, and the state the reset step makes of any state, hold every value the
spec states (`T`, `TV` and `STATUS` by whether the table is hardwired, R29); the file and its length are not touched by
the reset step. -/
def Obligations.ResetLeavesTheStatedValues : Prop :=
  (∀ t : State, (t = State.reset ∨ ∃ s, t = resetCore s) →
    t.ws = .idle ∧ t.cur = 0 ∧ t.hoff = 0 ∧ t.repairEn = false ∧ t.re = false ∧
    t.tv = t.params.tableHardwired ∧ (t.params.tableHardwired = true → t.table = builtTable) ∧
    t.crc = 0xFFFFFFFF#32 ∧ t.crcout = 0 ∧ t.cnt = 0 ∧ t.maxb = 0 ∧ t.hcsout = 0 ∧ t.hbn = 0 ∧ t.dh = .none ∧
    t.busy = false ∧ t.incomplete = false ∧ t.sigok = false ∧ t.short = false ∧ t.crcbad = false ∧
    t.hcsbad = false ∧ t.refused = false ∧ t.exitCode = false ∧ t.cause = .none ∧ t.rpt = [] ∧
    t.status = (if t.params.tableHardwired then 0x00000002#32 else 0x00000000#32)) ∧
  (∀ s : State, (resetCore s).mem = s.mem ∧ (resetCore s).fileLen = s.fileLen)

/-- R320, R291 with R264: whatever the host's next input, a step leaves a core in `StoppedClean`, `StoppedError` or
`Fatal` there, but that the reset step leads to `Idle`, and that an `RPR.REWRITE` that fails moves a stopped walker to
`Fatal`; the same over `exec`. The reset step leads every state to `Idle`. (R30 and R291 name reset alone; R264 and
R281 let `RPR.REWRITE` raise `Fatal` in a stopped state. DEDUCED, log 22.) -/
def Obligations.EndStatesAreLeftByResetOrAFailedRewrite : Prop :=
  (∀ s t : State, s.ws = .stoppedClean ∨ s.ws = .stoppedError ∨ s.ws = .fatal → step s = .next t →
    t.ws = s.ws ∨
      ((∃ rest, s.inputs = .reset :: rest) ∧ t.ws = .idle) ∨
      ((∃ v w rest, s.inputs = .write 0 v w :: rest ∧ BitVec.ofNat 4 v = 0xB#4) ∧ s.ws ≠ .fatal ∧ t.ws = .fatal)) ∧
  (∀ (i : Instr) (s t : State), s.ws = .stoppedClean ∨ s.ws = .stoppedError ∨ s.ws = .fatal →
    exec i s = .next t → t.ws = s.ws ∨ (i = .rprRewrite ∧ s.ws ≠ .fatal ∧ t.ws = .fatal)) ∧
  (∀ (s : State) (rest : List HostInput), s.inputs = .reset :: rest →
    ∃ t, step s = .next t ∧ t.ws = .idle ∧ t.inputs = rest)

/-- R329: in `Fatal` every command is refused, and nothing but `REFUSED` changes. -/
def Obligations.FatalRefusesEveryCommand : Prop :=
  ∀ (i : Instr) (s : State), s.busy = false → s.ws = .fatal → exec i s = .next { s with refused := true }

/-! ### Refusals and acceptance -/

/-- R37, R289: whatever the command, `BUSY` is tested first and refuses with `REF_BUSY`. -/
def Obligations.BusyRefusesEveryCommand : Prop :=
  ∀ (i : Instr) (s : State), s.busy = true → exec i s = .next (refuse .refBusy s)

/-- R285: a refusal sets `REFUSED`, and `CAUSE` but for a walker in `StoppedError` or `Fatal`; acceptance sets `REFUSED`
to 0 and `BUSY` to 1 (where no further command arrives behind it). -/
def Obligations.RefusalAndAcceptanceChangeTheirFields : Prop :=
  (∀ (c : Cause) (s : State), refuse c s =
    { s with refused := true, cause := if s.ws = .stoppedError ∨ s.ws = .fatal then s.cause else c }) ∧
  (∀ s : State, (∀ reg v rest, s.inputs ≠ .write reg v false :: rest) →
    accept s = { s with refused := false, busy := true })

/-- The model's own convention (log 11) for R37 and R43: the writes that stand right behind an accepted command and do
not wait arrive while `BUSY` is 1. They leave the queue; a command among them is refused with `REF_BUSY`; a register
write among them changes nothing. -/
def Obligations.OverlappingWritesMeetABusyCore : Prop :=
  ∀ (s : State) (pre rest : List HostInput),
    (∀ x ∈ pre, ∃ reg v, x = .write reg v false) → (∀ reg v tl, rest ≠ .write reg v false :: tl) →
    s.inputs = pre ++ rest →
    ((∃ v, HostInput.write 0 v false ∈ pre) →
      accept s = { s with busy := true, refused := true, inputs := rest,
                          cause := if s.ws = .stoppedError ∨ s.ws = .fatal then s.cause else .refBusy }) ∧
    ((¬ ∃ v, HostInput.write 0 v false ∈ pre) →
      accept s = { s with busy := true, refused := false, inputs := rest })

/-- R107: a command in a walker state its row does not admit is refused with `REF_STATE`. -/
def Obligations.CommandsOutsideTheirStatesAreRefused : Prop :=
  ∀ (i : Instr) (s : State), s.busy = false → isReserved i = false → admits i s.ws = false →
    exec i s = .next (refuse .refState s)

/-- R325: `CRC.COMPUTE`, `WALK.PROBE` and `WALK.RUN` are refused with `REF_NO_TABLE` while `TV` is 0. -/
def Obligations.NoTableRefusesTheOperationsThatNeedIt : Prop :=
  ∀ s : State, s.busy = false → s.tv = false →
    ((s.ws = .idle ∨ s.ws = .stoppedClean ∨ s.ws = .stoppedError) →
      exec .crcCompute s = .next (refuse .refNoTable s)) ∧
    (s.ws = .idle → exec .walkProbe s = .next (refuse .refNoTable s) ∧
      exec .walkRun s = .next (refuse .refNoTable s))

/-- R163, R185, R186, R264, R281: `REF_NO_HEADER`. -/
def Obligations.NoHeaderRefusesTheOperationsThatNeedOne : Prop :=
  ∀ s : State, s.busy = false → (s.ws = .idle ∨ s.ws = .stoppedClean ∨ s.ws = .stoppedError) →
    (s.hbn.toNat < 24 → exec .hcsCompute s = .next (refuse .refNoHeader s)) ∧
    (s.dh = .none → exec .hdrVsig s = .next (refuse .refNoHeader s) ∧
      exec .hdrEnc s = .next (refuse .refNoHeader s)) ∧
    (s.hbn.toNat ≠ 20 ∧ s.hbn.toNat ≠ 24 → exec .rprRewrite s = .next (refuse .refNoHeader s))

/-- R106: writing a reserved code to `CMD` is refused with `REF_BADOP` and changes nothing else. It says so for the
five instructions, and for the step that takes such a write from the host. -/
def Obligations.ReservedCodesAreRefused : Prop :=
  (∀ s : State, s.busy = false →
    exec .reserved0 s = .next (refuse .refBadOp s) ∧ exec .reservedC s = .next (refuse .refBadOp s) ∧
    exec .reservedD s = .next (refuse .refBadOp s) ∧ exec .reservedE s = .next (refuse .refBadOp s) ∧
    exec .reservedF s = .next (refuse .refBadOp s)) ∧
  (∀ (s : State) (c : BitVec 4) (rest : List HostInput), s.busy = false →
    (c = 0x0#4 ∨ c = 0xC#4 ∨ c = 0xD#4 ∨ c = 0xE#4 ∨ c = 0xF#4) →
    s.inputs = .write 0 c.toNat true :: rest →
    step s = .next (refuse .refBadOp { s with inputs := rest }))

/-! ### Encodings -/

/-- R92, R93, R105, R106: words written out from the encodings decode to the instructions they stand for. -/
def Obligations.WordsOfTheTableDecode : Prop :=
  decodeTableWord 8 0x1 = some .crcBuild ∧ decodeTableWord 8 0x2 = some .crcCompute ∧
  decodeTableWord 8 0x3 = some .hcsCompute ∧ decodeTableWord 8 0x7 = some .hdrEnc ∧
  decodeTableWord 8 0x9 = some .walkStep ∧ decodeTableWord 8 0xB = some .rprRewrite ∧
  decodeTableWord 8 0xF = some .reservedF ∧
  decodeTableWord 160 0x01020003CBF4392600000009CAFEF00D7F02AA55 =
    some (.blockV1 ⟨0xAA55#16, 2#8, 0x7F#8, 0xCAFEF00D#32, 9#32, 0xCBF43926#32, 0x01020003#32⟩) ∧
  decodeTableWord 192 0x0004123400000009CBF4392602010007000100660000005A =
    some (.blockV2 ⟨0x5A#32, 0x66#8, 0#8, 1#16, 0x02010007#32, 0xCBF43926#32, 9#32, 0x1234#16, 4#16⟩) ∧
  decodeTableWord 160 0x1234 = none

/-- R92, R93, R105, R187: the decoder reads back every well-formed instruction from its word, also with a payload tail
behind a header word (R97). -/
def Obligations.DecodeReadsBackEveryEncodedInstruction : Prop :=
  ∀ i : Instr, i.wellFormed = true →
    decode (encode i) = .ok i ∧
    ∀ B tail, encode i = .header B → decode (.header (B ++ tail)) = .ok i

/-- R92, R93, R105: what the decoder reads, the encoder writes back: a code word whole, a header word as the front of
the bytes it was read from; and the decoder answers with well-formed instructions only. -/
def Obligations.EncodeWritesBackEveryDecodedWord : Prop :=
  (∀ c : BitVec 4, encode (decodeCode c) = .code c) ∧
  (∀ (B : List Byte) (i : Instr), decode (.header B) = .ok i →
    i.wellFormed = true ∧ ∃ head tail, B = head ++ tail ∧ encode i = .header head)

/-- R187: decoding is a bijection between byte strings of the header's size and header values, in both formats. -/
def Obligations.HeaderCodecRoundTrips : Prop :=
  (∀ B : List Byte, B.length = 20 → (decV1 B).map encV1 = some B) ∧
  (∀ B : List Byte, B.length = 24 → (decV2 B).map encV2 = some B) ∧
  (∀ h : HeaderV1, decV1 (encV1 h) = some h) ∧
  (∀ h : HeaderV2, decV2 (encV2 h) = some h)

/-! ### The step -/

/-- A step runs the decoded instruction (R37, R90, R105, log 10, log 15): a code the host writes to `CMD` runs as the
instruction it decodes to; where that code is `WALK.STEP` in a scan and a whole header of the mode's format stands at
the cursor, the block it decodes to runs. Around `exec` the step takes the input from the queue. -/
def Obligations.StepRunsTheDecodedInstruction : Prop :=
  (∀ (s : State) (v : Nat) (w : Bool) (rest : List HostInput) (i : Instr),
    s.inputs = .write 0 v w :: rest → decode (.code (BitVec.ofNat 4 v)) = .ok i →
    (i ≠ .walkStep ∨ s.busy = true ∨ (s.ws ≠ .scanningV1 ∧ s.ws ≠ .scanningV2)) →
    step s = exec i { s with inputs := rest }) ∧
  (∀ (s : State) (v : Nat) (w : Bool) (rest : List HostInput) (h : HeaderV1),
    s.inputs = .write 0 v w :: rest → BitVec.ofNat 4 v = 0x9#4 → s.busy = false → s.ws = .scanningV1 →
    decode (.header (streamBytes s.mem s.fileLen s.cur 20)) = .ok (.blockV1 h) →
    step s = exec (.blockV1 h) { s with inputs := rest }) ∧
  (∀ (s : State) (v : Nat) (w : Bool) (rest : List HostInput) (h : HeaderV2),
    s.inputs = .write 0 v w :: rest → BitVec.ofNat 4 v = 0x9#4 → s.busy = false → s.ws = .scanningV2 →
    decode (.header (streamBytes s.mem s.fileLen s.cur 24)) = .ok (.blockV2 h) →
    step s = exec (.blockV2 h) { s with inputs := rest })

/-- R214 to R217, log 15: `WALK.STEP` is the examination of the header word that the file holds at the cursor,
in both modes and for both formats; so the step that takes the code of `WALK.STEP` from the host is `WALK.STEP`,
whichever instruction it fetches. -/
def Obligations.WalkStepRunsTheBlockTheFileHolds : Prop :=
  (∀ (s : State) (h : HeaderV1), streamBytes s.mem s.fileLen s.cur 20 = encV1 h →
    exec .walkStep s = exec (.blockV1 h) s) ∧
  (∀ (s : State) (h : HeaderV2), streamBytes s.mem s.fileLen s.cur 24 = encV2 h →
    exec .walkStep s = exec (.blockV2 h) s) ∧
  (∀ (s : State) (v : Nat) (w : Bool) (rest : List HostInput), s.inputs = .write 0 v w :: rest →
    BitVec.ofNat 4 v = 0x9#4 → step s = exec .walkStep { s with inputs := rest })

/-- Every input that is no command (R320, R323, R324, R36, logs 10 and 13): with none pending the core waits; a grant, an
answer of the storage port and an attached file take effect and nothing else changes; a file attached during a scan is
the model's fault and one of `2^OFFSET_W` bytes or more is refused; the reset step takes place; a write to a register
is the host's write. -/
def Obligations.StepTakesTheHostsOtherInputs : Prop :=
  ∀ s : State,
    (s.inputs = [] → step s = .next s) ∧
    (∀ b rest, s.inputs = .grant b :: rest → step s = .next { s with inputs := rest, writeAccess := b }) ∧
    (∀ o rest, s.inputs = .portAnswer o :: rest →
      step s = .next { s with inputs := rest, answers := s.answers ++ [o] }) ∧
    (∀ B rest, s.inputs = .attach B :: rest → scanAccepts s.ws = true → step s = .fault .fileChangedDuringScan) ∧
    (∀ B rest, s.inputs = .attach B :: rest → scanAccepts s.ws = false → B.length < 2 ^ s.params.offsetW →
      ∃ t, step s = .next t ∧ t.fileLen = B.length ∧ memRead t.mem 0 B.length = B ∧
        t = { s with inputs := rest, mem := t.mem, fileLen := t.fileLen }) ∧
    (∀ B rest, s.inputs = .attach B :: rest → scanAccepts s.ws = false → 2 ^ s.params.offsetW ≤ B.length →
      step s = .refused .fileTooLong) ∧
    (∀ rest, s.inputs = .reset :: rest → step s = .next (resetCore { s with inputs := rest })) ∧
    (∀ n v w rest, s.inputs = .write n v w :: rest → n ≠ 0 →
      step s = .next (hostWrite n v { s with inputs := rest }))

/-! ### The host's registers -/

/-- R41: every field of `STATUS` mirrors its flag or state register; bits 31:16 read as 0. -/
def Obligations.StatusMirrorsTheFlags : Prop :=
  ∀ s : State,
    s.status.getLsbD 0 = s.busy ∧ s.status.getLsbD 1 = s.tv ∧ s.status.extractLsb' 2 3 = s.ws.code ∧
    s.status.getLsbD 5 = s.incomplete ∧ s.status.getLsbD 6 = s.sigok ∧ s.status.getLsbD 7 = s.short ∧
    s.status.getLsbD 8 = s.crcbad ∧ s.status.getLsbD 9 = s.hcsbad ∧ s.status.getLsbD 10 = s.refused ∧
    s.status.getLsbD 11 = s.exitCode ∧ s.status.extractLsb' 12 4 = s.cause.code ∧
    s.status.extractLsb' 16 16 = 0#16

/-- R43: a host write to a register other than `CMD` is ignored while `BUSY` is 1, in a scan and in `Fatal`. -/
def Obligations.HostWritesAreIgnoredDuringAScan : Prop :=
  ∀ (s : State) (n : Nat) (v : Nat) (w : Bool) (rest : List HostInput),
    s.inputs = .write n v w :: rest → n ≠ 0 →
    (s.busy = true ∨ s.ws = .scanningV1 ∨ s.ws = .scanningV2 ∨ s.ws = .fatal) →
    step s = .next { s with inputs := rest }

/-- R36, R38, R40, R43: a step that takes an accepted write to a register leaves it holding what was written, at the
register's own width (`HBN` above 24 reads 24, `CFG` reads its bit 0), for every register the host may write. A value
wider than its register gives its low bits, and `HBN` is compared with 24 as the whole value (log 16). -/
def Obligations.HostWritesReadBack : Prop :=
  ∀ (s t : State) (n v : Nat) (w : Bool) (rest : List HostInput), s.inputs = .write n v w :: rest → s.busy = false →
    (s.ws = .idle ∨ s.ws = .stoppedClean ∨ s.ws = .stoppedError) → s.hb.length = 24 → step s = .next t →
    (n = 0x02 → t.readRegister n = some (v % 2)) ∧
    (n = 0x03 ∨ n = 0x04 → t.readRegister n = some (v % 2 ^ s.params.offsetW)) ∧
    (n = 0x05 → t.readRegister n = some (v % 2 ^ 32)) ∧
    (n = 0x09 → t.readRegister n = some (min v 24)) ∧
    (0x10 ≤ n ∧ n < 0x28 → t.readRegister n = some (v % 2 ^ 8)) ∧
    (n = 0x30 → v % 4 ≠ 3 → t.readRegister n = some (v % 4)) ∧
    (∀ h, s.dh = .v1 h →
      (n = 0x31 → t.readRegister n = some (v % 2 ^ 16)) ∧
      (n = 0x33 ∨ n = 0x34 → t.readRegister n = some (v % 2 ^ 8)) ∧
      (n = 0x35 ∨ n = 0x37 ∨ n = 0x38 ∨ n = 0x39 → t.readRegister n = some (v % 2 ^ 32))) ∧
    (∀ h, s.dh = .v2 h →
      (n = 0x32 ∨ n = 0x33 → t.readRegister n = some (v % 2 ^ 8)) ∧
      (n = 0x36 ∨ n = 0x3A ∨ n = 0x3B → t.readRegister n = some (v % 2 ^ 16)) ∧
      (n = 0x31 ∨ n = 0x37 ∨ n = 0x38 ∨ n = 0x39 → t.readRegister n = some (v % 2 ^ 32)))

/-- R36, R38, R40, R43: the next state of a step that takes an accepted write to a register, for every register number
but `CMD` and `DH.tag`: the register written takes the value and nothing else changes; a read-only or reserved number,
and a field the present tag does not have, ignore the write. A value wider than its register gives its low bits
(log 16). After a write to `HBN` nothing is said of the bytes of `HB` above it (log 9; `draws` is log 19). -/
def Obligations.HostWritesChangeTheirRegisterAlone : Prop :=
  ∀ (s : State) (n v : Nat) (w : Bool) (rest : List HostInput), s.inputs = .write n v w :: rest → s.busy = false →
    (s.ws = .idle ∨ s.ws = .stoppedClean ∨ s.ws = .stoppedError) → s.hb.length = 24 →
    let u : State := { s with inputs := rest }
    (n = 0x02 → step s = .next { u with repairEn := decide (v % 2 = 1) }) ∧
    (n = 0x03 → step s = .next { u with cur := v % 2 ^ s.params.offsetW }) ∧
    (n = 0x04 → step s = .next { u with hoff := v % 2 ^ s.params.offsetW }) ∧
    (n = 0x05 → step s = .next { u with maxb := BitVec.ofNat 32 v }) ∧
    (n = 0x09 → ∃ t, step s = .next t ∧
      t = { u with hbn := BitVec.ofNat 5 (min v 24), hb := t.hb, draws := t.draws } ∧
      t.hb.length = 24 ∧ t.hb.take (min v 24) = s.hb.take (min v 24)) ∧
    (∀ k, k < 24 → n = 0x10 + k → step s = .next { u with hb := s.hb.set k (BitVec.ofNat 8 v) }) ∧
    (∀ h, s.dh = .v1 h →
      (n = 0x31 → step s = .next { u with dh := .v1 { h with signature := BitVec.ofNat 16 v } }) ∧
      (n = 0x33 → step s = .next { u with dh := .v1 { h with blockType := BitVec.ofNat 8 v } }) ∧
      (n = 0x34 → step s = .next { u with dh := .v1 { h with unknown3 := BitVec.ofNat 8 v } }) ∧
      (n = 0x35 → step s = .next { u with dh := .v1 { h with reserved := BitVec.ofNat 32 v } }) ∧
      (n = 0x37 → step s = .next { u with dh := .v1 { h with firmwareVersion := BitVec.ofNat 32 v } }) ∧
      (n = 0x38 → step s = .next { u with dh := .v1 { h with declaredDataCrc32 := BitVec.ofNat 32 v } }) ∧
      (n = 0x39 → step s = .next { u with dh := .v1 { h with declaredDataLength := BitVec.ofNat 32 v } }) ∧
      (n = 0x32 ∨ n = 0x36 ∨ n = 0x3A ∨ n = 0x3B → step s = .next u)) ∧
    (∀ h, s.dh = .v2 h →
      (n = 0x31 → step s = .next { u with dh := .v2 { h with signature := BitVec.ofNat 32 v } }) ∧
      (n = 0x32 → step s = .next { u with dh := .v2 { h with headerChecksum := BitVec.ofNat 8 v } }) ∧
      (n = 0x33 → step s = .next { u with dh := .v2 { h with blockType := BitVec.ofNat 8 v } }) ∧
      (n = 0x36 → step s = .next { u with dh := .v2 { h with hardwareRevision := BitVec.ofNat 16 v } }) ∧
      (n = 0x37 → step s = .next { u with dh := .v2 { h with firmwareVersion := BitVec.ofNat 32 v } }) ∧
      (n = 0x38 → step s = .next { u with dh := .v2 { h with declaredDataCrc32 := BitVec.ofNat 32 v } }) ∧
      (n = 0x39 → step s = .next { u with dh := .v2 { h with declaredDataLength := BitVec.ofNat 32 v } }) ∧
      (n = 0x3A → step s = .next { u with dh := .v2 { h with unknownField0x14 := BitVec.ofNat 16 v } }) ∧
      (n = 0x3B → step s = .next { u with dh := .v2 { h with deviceType := BitVec.ofNat 16 v } }) ∧
      (n = 0x34 ∨ n = 0x35 → step s = .next u)) ∧
    (s.dh = .none → 0x31 ≤ n ∧ n ≤ 0x3B → step s = .next u) ∧
    (n = 0x01 ∨ (0x06 ≤ n ∧ n ≤ 0x08) ∨ (0x0A ≤ n ∧ n ≤ 0x0F) ∨ (0x28 ≤ n ∧ n ≤ 0x2F) ∨ 0x3C ≤ n → step s = .next u)

/-- R40 with R43: a step that takes an accepted write to `DH.tag`: code 0 makes the variant `None`; the code of the
present tag and code 3 change nothing; code 1 or 2 over another tag makes the variant `V1` or `V2`, of whose fields
nothing is said (DESIGN CHOICE, log 4: free values; `draws` is log 19). Of a value wider than the register the low two
bits count (log 16). -/
def Obligations.HostWritesOfTheTagChangeTheVariant : Prop :=
  ∀ (s : State) (v : Nat) (w : Bool) (rest : List HostInput), s.inputs = .write 0x30 v w :: rest → s.busy = false →
    (s.ws = .idle ∨ s.ws = .stoppedClean ∨ s.ws = .stoppedError) →
    let u : State := { s with inputs := rest }
    (v % 4 = 0 → step s = .next { u with dh := .none }) ∧
    (v % 4 = 1 →
      ((∃ h, s.dh = .v1 h) → step s = .next u) ∧
      ((s.dh = .none ∨ ∃ h, s.dh = .v2 h) → ∃ h d, step s = .next { u with dh := .v1 h, draws := d })) ∧
    (v % 4 = 2 →
      ((∃ h, s.dh = .v2 h) → step s = .next u) ∧
      ((s.dh = .none ∨ ∃ h, s.dh = .v1 h) → ∃ h d, step s = .next { u with dh := .v2 h, draws := d })) ∧
    (v % 4 = 3 → step s = .next u)

/-- R36, R38, R39, R40: what the host reads from every register number: each register as it stands, a field the present
tag does not have 0, a reserved number 0, and `CMD`, which is write only, nothing. `RPTN` counts the records of the log
while 32 bits can (beyond that nothing is said: log 17). -/
def Obligations.HostReadsGiveEveryRegister : Prop :=
  ∀ s : State,
    s.readRegister 0x00 = none ∧ s.readRegister 0x01 = some s.status.toNat ∧
    s.readRegister 0x02 = some (if s.repairEn then 1 else 0) ∧ s.readRegister 0x03 = some s.cur ∧
    s.readRegister 0x04 = some s.hoff ∧ s.readRegister 0x05 = some s.maxb.toNat ∧
    s.readRegister 0x06 = some s.crcout.toNat ∧ s.readRegister 0x07 = some s.cnt.toNat ∧
    s.readRegister 0x08 = some s.hcsout.toNat ∧ s.readRegister 0x09 = some s.hbn.toNat ∧
    s.readRegister 0x0A = some s.crc.toNat ∧
    (s.rpt.length < 2 ^ 32 → s.readRegister 0x0B = some s.rpt.length) ∧
    (∀ k b, k < 24 → s.hb[k]? = some b → s.readRegister (0x10 + k) = some b.toNat) ∧
    (s.dh = .none → s.readRegister 0x30 = some 0 ∧ ∀ n, 0x31 ≤ n → n ≤ 0x3B → s.readRegister n = some 0) ∧
    (∀ h, s.dh = .v1 h →
      s.readRegister 0x30 = some 1 ∧ s.readRegister 0x31 = some h.signature.toNat ∧ s.readRegister 0x32 = some 0 ∧
      s.readRegister 0x33 = some h.blockType.toNat ∧ s.readRegister 0x34 = some h.unknown3.toNat ∧
      s.readRegister 0x35 = some h.reserved.toNat ∧ s.readRegister 0x36 = some 0 ∧
      s.readRegister 0x37 = some h.firmwareVersion.toNat ∧ s.readRegister 0x38 = some h.declaredDataCrc32.toNat ∧
      s.readRegister 0x39 = some h.declaredDataLength.toNat ∧ s.readRegister 0x3A = some 0 ∧
      s.readRegister 0x3B = some 0) ∧
    (∀ h, s.dh = .v2 h →
      s.readRegister 0x30 = some 2 ∧ s.readRegister 0x31 = some h.signature.toNat ∧
      s.readRegister 0x32 = some h.headerChecksum.toNat ∧ s.readRegister 0x33 = some h.blockType.toNat ∧
      s.readRegister 0x34 = some 0 ∧ s.readRegister 0x35 = some 0 ∧
      s.readRegister 0x36 = some h.hardwareRevision.toNat ∧ s.readRegister 0x37 = some h.firmwareVersion.toNat ∧
      s.readRegister 0x38 = some h.declaredDataCrc32.toNat ∧ s.readRegister 0x39 = some h.declaredDataLength.toNat ∧
      s.readRegister 0x3A = some h.unknownField0x14.toNat ∧ s.readRegister 0x3B = some h.deviceType.toNat) ∧
    (∀ i e, i < 256 → s.table[i]? = some e → s.readRegister (0x100 + i) = some e.toNat) ∧
    (∀ n, (0x0C ≤ n ∧ n ≤ 0x0F) ∨ (0x28 ≤ n ∧ n ≤ 0x2F) ∨ (0x3C ≤ n ∧ n ≤ 0xFF) ∨ 0x200 ≤ n →
      s.readRegister n = some 0)

/-! ### The CRC-32 engine -/

/-- R133: `CRC.BUILD` fills the table with `tbl(i)` and sets `TV`; nothing else changes; elsewhere than in `Idle`,
`StoppedClean` and `StoppedError` it is refused; a second one changes nothing more; and `T[1]` is the worked example's
value. -/
def Obligations.CrcBuildFillsTheTable : Prop :=
  (∀ s : State, s.busy = false → (s.ws = .idle ∨ s.ws = .stoppedClean ∨ s.ws = .stoppedError) →
    ∃ t, exec .crcBuild s = .next t ∧ t = { accept s with busy := false, table := t.table, tv := true } ∧
      t.table.length = 256 ∧ (∀ i, i < 256 → t.table[i]? = some (tbl i)) ∧
      ∀ u, exec .crcBuild t = .next u → u.table = t.table ∧ u.tv = true) ∧
  (∀ s : State, s.busy = false → (s.ws = .scanningV1 ∨ s.ws = .scanningV2 ∨ s.ws = .fatal) →
    exec .crcBuild s = .next (refuse .refState s)) ∧
  tbl 1 = 0x77073096#32

/-- R139: the table form of the byte update equals eight bit-serial iterations. -/
def Obligations.TableUpdateEqualsEightBitSteps : Prop :=
  ∀ (c : Word) (b : Byte), crcUpdate builtTable c b = iter32x8 (c ^^^ b.setWidth 32)

/-- R137 with R135, R136 and R138: `CRC.COMPUTE` consumes the bytes of the stream up to `MAXB` and the end of the file,
leaves the accumulator, its complement and the count, moves the cursor by the count, and changes nothing else; it is
refused without a table and outside its states. -/
def Obligations.CrcComputeRunsOverTheStream : Prop :=
  ∀ s : State, s.busy = false →
    ((s.ws = .idle ∨ s.ws = .stoppedClean ∨ s.ws = .stoppedError) → s.tv = true →
      let n := if s.fileLen ≤ s.cur then 0 else min s.maxb.toNat (s.fileLen - s.cur)
      let c := crcFold s.table (memRead s.mem s.cur n)
      exec .crcCompute s = .next { accept s with
        busy := false, crc := c, crcout := ~~~c, cnt := BitVec.ofNat 32 n, cur := s.cur + n }) ∧
    ((s.ws = .idle ∨ s.ws = .stoppedClean ∨ s.ws = .stoppedError) → s.tv = false →
      exec .crcCompute s = .next (refuse .refNoTable s)) ∧
    ((s.ws = .scanningV1 ∨ s.ws = .scanningV2 ∨ s.ws = .fatal) → exec .crcCompute s = .next (refuse .refState s))

/-- R138, R139 with R29: once the table is built, the digest `CRC.COMPUTE` leaves is the bit-serial reflected CRC-32 of
exactly the bytes the cursor passed over. -/
def Obligations.CrcComputeIsTheReflectedCrc32 : Prop :=
  ∀ s t : State, s.busy = false → (s.ws = .idle ∨ s.ws = .stoppedClean ∨ s.ws = .stoppedError) → s.tv = true →
    s.table = builtTable → exec .crcCompute s = .next t →
    t.crcout = ~~~ crcBitSerial (memRead s.mem s.cur t.cnt.toNat) ∧
    t.cur = s.cur + t.cnt.toNat ∧ t.cnt ≤ s.maxb

/-! ### The header checksum unit -/

/-- R163 with R161, R162, R164: `HCS.COMPUTE` leaves the checksum of `HB[5..23]` in `HCSOUT` and changes nothing else but
the unit's own `RES` and `DAT`, which keep what the run left in them, the checksum and 0 (DEDUCED, log 18: R163 names
`HCSOUT` only); it is refused with fewer than 24 valid bytes and outside its states. -/
def Obligations.HcsComputeChecksTheNineteenBytes : Prop :=
  ∀ s : State, s.busy = false → s.hb.length = 24 →
    ((s.ws = .idle ∨ s.ws = .stoppedClean ∨ s.ws = .stoppedError) → 24 ≤ s.hbn.toNat →
      let sum := hcs s.params.hcsSeed ((List.range 19).map fun k => s.hb.getD (5 + k) 0#8)
      exec .hcsCompute s = .next { accept s with busy := false, hcsout := sum, res := sum, dat := 0#8 }) ∧
    ((s.ws = .idle ∨ s.ws = .stoppedClean ∨ s.ws = .stoppedError) → s.hbn.toNat < 24 →
      exec .hcsCompute s = .next (refuse .refNoHeader s)) ∧
    ((s.ws = .scanningV1 ∨ s.ws = .scanningV2 ∨ s.ws = .fatal) → exec .hcsCompute s = .next (refuse .refState s))

/-- R165: the checksum is a function of the 19 input bytes and the seed alone: two machines that agree on those leave
the same `HCSOUT`, whatever their signature bytes, stored checksum, decoded header or old `RES` and `DAT`. -/
def Obligations.HcsDependsOnTheNineteenBytesAlone : Prop :=
  ∀ s s' t t' : State, s.busy = false → s'.busy = false → unitAccepts s.ws = true → unitAccepts s'.ws = true →
    24 ≤ s.hbn.toNat → 24 ≤ s'.hbn.toNat → s.params.hcsSeed = s'.params.hcsSeed →
    (∀ k, 5 ≤ k → k < 24 → s.hb[k]? = s'.hb[k]?) →
    exec .hcsCompute s = .next t → exec .hcsCompute s' = .next t' → t.hcsout = t'.hcsout

/-- R167: flipping any one bit of a byte sequence changes its checksum, whatever the seed; so it does for each of the
19 bytes of a header. -/
def Obligations.SingleBitFlipChangesTheChecksum : Prop :=
  ∀ (seed : Byte) (B : List Byte) (k j : Nat), k < B.length → j < 8 → hcs seed (flipBit B k j) ≠ hcs seed B

/-! ### The header decoder -/

/-- R182 with R181: `HDR.DEC1`. -/
def Obligations.HdrDec1DecodesTheBuffer : Prop :=
  ∀ s : State, s.busy = false → s.hb.length = 24 → s.hbn.toNat ≤ 24 →
    ((s.ws = .idle ∨ s.ws = .stoppedClean ∨ s.ws = .stoppedError) →
      (s.hbn.toNat < 20 → exec .hdrDec1 s = .next { accept s with busy := false, incomplete := true, dh := .none }) ∧
      (20 ≤ s.hbn.toNat → exec .hdrDec1 s = .next { accept s with
        busy := false
        incomplete := false
        dh := .v1 ⟨le16 s.hb 0, byteAt s.hb 2, byteAt s.hb 3, le32 s.hb 4, le32 s.hb 8, le32 s.hb 12, le32 s.hb 16⟩ })) ∧
    ((s.ws = .scanningV1 ∨ s.ws = .scanningV2 ∨ s.ws = .fatal) → exec .hdrDec1 s = .next (refuse .refState s))

/-- R183 with R181: `HDR.DEC2`. -/
def Obligations.HdrDec2DecodesTheBuffer : Prop :=
  ∀ s : State, s.busy = false → s.hb.length = 24 → s.hbn.toNat ≤ 24 →
    ((s.ws = .idle ∨ s.ws = .stoppedClean ∨ s.ws = .stoppedError) →
      (s.hbn.toNat < 24 → exec .hdrDec2 s = .next { accept s with busy := false, incomplete := true, dh := .none }) ∧
      (24 ≤ s.hbn.toNat → exec .hdrDec2 s = .next { accept s with
        busy := false
        incomplete := false
        dh := .v2 ⟨le32 s.hb 0, byteAt s.hb 4, byteAt s.hb 5, le16 s.hb 6, le32 s.hb 8, le32 s.hb 12, le32 s.hb 16,
          le16 s.hb 20, le16 s.hb 22⟩ })) ∧
    ((s.ws = .scanningV1 ∨ s.ws = .scanningV2 ∨ s.ws = .fatal) → exec .hdrDec2 s = .next (refuse .refState s))

/-- R185: `HDR.VSIG` compares 16 bits under tag `V1` and 32 bits under tag `V2`, writes `SIGOK` and nothing else, and
is refused without a decoded header and outside its states. -/
def Obligations.HdrVsigComparesTheSignature : Prop :=
  ∀ s : State, s.busy = false →
    ((s.ws = .idle ∨ s.ws = .stoppedClean ∨ s.ws = .stoppedError) →
      (s.dh = .none → exec .hdrVsig s = .next (refuse .refNoHeader s)) ∧
      (∀ h, s.dh = .v1 h →
        exec .hdrVsig s = .next { accept s with busy := false, sigok := decide (h.signature = 0xAA55#16) }) ∧
      (∀ h, s.dh = .v2 h →
        exec .hdrVsig s = .next { accept s with busy := false, sigok := decide (h.signature = 0x0000005A#32) })) ∧
    ((s.ws = .scanningV1 ∨ s.ws = .scanningV2 ∨ s.ws = .fatal) → exec .hdrVsig s = .next (refuse .refState s))

/-- R186: `HDR.ENC` writes the bytes of the decoded header and their count into the header buffer and changes nothing
else of the spec's state (the draw counter is the model's own, log 19); `HB[20..23]` hold no value after a V1 header,
so nothing is said of them; it is refused without a decoded header and outside its states. -/
def Obligations.HdrEncEncodesTheHeader : Prop :=
  ∀ s : State, s.busy = false →
    ((s.ws = .idle ∨ s.ws = .stoppedClean ∨ s.ws = .stoppedError) →
      (s.dh = .none → exec .hdrEnc s = .next (refuse .refNoHeader s)) ∧
      (∀ h, s.dh = .v1 h → ∃ t, exec .hdrEnc s = .next t ∧
        t = { accept s with busy := false, hb := t.hb, hbn := 20#5, draws := t.draws } ∧
        t.hb.length = 24 ∧ t.hb.take 20 = encV1 h) ∧
      (∀ h, s.dh = .v2 h → ∃ t, exec .hdrEnc s = .next t ∧
        t = { accept s with busy := false, hb := encV2 h, hbn := 24#5, draws := t.draws })) ∧
    ((s.ws = .scanningV1 ∨ s.ws = .scanningV2 ∨ s.ws = .fatal) → exec .hdrEnc s = .next (refuse .refState s))

/-! ### The probe -/

/-- R212: the four outcomes of `WALK.PROBE` on the window at the cursor, the V2 signature tested first; the cursor does
not move and `RE` takes `CFG.REPAIR_EN`. -/
def Obligations.WalkProbePicksTheFormat : Prop :=
  ∀ s : State, s.busy = false → s.ws = .idle → s.tv = true → 4 ≤ s.params.probeMin →
    let n := if s.fileLen ≤ s.cur then 0 else min 24 (s.fileLen - s.cur)
    let W := memRead s.mem s.cur n
    (n < s.params.probeMin → exec .walkProbe s = .next { accept s with
      busy := false, re := s.repairEn, ws := .stoppedError, cause := .probeUnreadable, exitCode := true,
      rpt := s.rpt ++ [.probeUnreadable s.cur n] }) ∧
    (s.params.probeMin ≤ n → le32 W 0 = 0x0000005A#32 →
      exec .walkProbe s = .next { accept s with busy := false, re := s.repairEn, ws := .scanningV2 }) ∧
    (s.params.probeMin ≤ n → le16 W 0 = 0xAA55#16 →
      exec .walkProbe s = .next { accept s with busy := false, re := s.repairEn, ws := .scanningV1 }) ∧
    (s.params.probeMin ≤ n → le32 W 0 ≠ 0x0000005A#32 → le16 W 0 ≠ 0xAA55#16 → exec .walkProbe s = .next { accept s with
      busy := false, re := s.repairEn, ws := .stoppedError, cause := .probeUnrecognized, exitCode := true,
      rpt := s.rpt ++ [.probeUnrecognized s.cur (le32 W 0)] })

/-! ### One block -/

/-- R216: at the end of the file a `WALK.STEP` ends the scan cleanly; with 1 to `H - 1` bytes left it stops with
`INCOMPLETE_HEADER`, the cursor at `L`; in both cases the header buffer holds what was read (its bytes above `HBN` are
free values: DEDUCED, log 9; `draws` counts the draw: log 19) and nothing else changes but what R283 names. -/
def Obligations.WalkStepStopsWithoutAWholeHeader : Prop :=
  ∀ (s : State) (n : Nat), s.busy = false → (s.ws = .scanningV1 ∧ n = 20 ∨ s.ws = .scanningV2 ∧ n = 24) →
    (s.fileLen ≤ s.cur → exec .walkStep s = .next { accept s with
      busy := false, hoff := s.cur, hb := headerBuffer s.draws [], hbn := 0, draws := s.draws + 1,
      ws := .stoppedClean, cause := .none, exitCode := false, rpt := s.rpt ++ [.cleanEnd s.cur] }) ∧
    (s.cur < s.fileLen → s.fileLen - s.cur < n →
      let k := s.fileLen - s.cur
      exec .walkStep s = .next { accept s with
        busy := false, hoff := s.cur, cur := s.fileLen,
        hb := headerBuffer s.draws (memRead s.mem s.cur k), hbn := BitVec.ofNat 5 k, draws := s.draws + 1,
        incomplete := true, ws := .stoppedError, cause := .incompleteHeader, exitCode := true,
        rpt := s.rpt ++ [.incompleteHeader s.cur k] })

/-- R218: a whole header whose signature is not the mode's is reported with its fields and stops the scan; no checksum
is computed, no payload byte read, no repair attempted. The block's word is run by log 15; after a V1 header
`HB[20..23]` are free values (DEDUCED, log 9; `draws` is log 19). -/
def Obligations.BadSignatureStopsTheScan : Prop :=
  (∀ (s : State) (h : HeaderV1), s.busy = false → s.ws = .scanningV1 → h.signature ≠ 0xAA55#16 →
    exec (.blockV1 h) s = .next { accept s with
      busy := false, hoff := s.cur, cur := s.cur + 20, hb := headerBuffer s.draws (encV1 h), hbn := 20#5,
      draws := s.draws + 1, dh := .v1 h, incomplete := false, sigok := false, ws := .stoppedError,
      cause := .badSignature, exitCode := true,
      rpt := s.rpt ++ [.badSignature s.cur (.v1 h.signature) (.v1 h)] }) ∧
  (∀ (s : State) (h : HeaderV2), s.busy = false → s.ws = .scanningV2 → h.signature ≠ 0x0000005A#32 →
    exec (.blockV2 h) s = .next { accept s with
      busy := false, hoff := s.cur, cur := s.cur + 24, hb := encV2 h, hbn := 24#5,
      draws := s.draws + 1, dh := .v2 h, incomplete := false, sigok := false, ws := .stoppedError,
      cause := .badSignature, exitCode := true,
      rpt := s.rpt ++ [.badSignature s.cur (.v2 h.signature) (.v2 h)] })

/-- R102: a header of the other format met in a scan is a bad signature (the block's word is run by log 15). -/
def Obligations.OtherFormatIsABadSignature : Prop :=
  (∀ (s : State) (h : HeaderV2), s.busy = false → s.ws = .scanningV1 → h.wellFormed = true →
    ∃ t, exec (.blockV2 h) s = .next t ∧ t.ws = .stoppedError ∧ t.cause = .badSignature ∧ t.sigok = false ∧
      t.mem = s.mem ∧ t.crcout = s.crcout ∧ t.cur = s.cur + 20) ∧
  (∀ (s : State) (h : HeaderV1), s.busy = false → s.ws = .scanningV2 → h.wellFormed = true →
    s.cur + 24 ≤ s.fileLen →
    ∃ t, exec (.blockV1 h) s = .next t ∧ t.ws = .stoppedError ∧ t.cause = .badSignature ∧ t.sigok = false ∧
      t.mem = s.mem ∧ t.crcout = s.crcout ∧ t.cur = s.cur + 24)

/-- R214 to R224: a V1 block that needs no repair (repair off, or no mismatch): every register of the examination, the
record, the next address or the shortfall stop; nothing else changes, the file with it. The block's word is run by
log 15; `HB[20..23]`, to which the rules give no value, are free values (DEDUCED, log 9; `draws` is log 19). -/
def Obligations.BlockV1IsExaminedAndReported : Prop :=
  ∀ (s : State) (h : HeaderV1), s.busy = false → s.ws = .scanningV1 → h.signature = 0xAA55#16 →
    (s.re = false ∨ ((examinedV1 h s).short = false ∧ (examinedV1 h s).crcbad = false)) →
    exec (.blockV1 h) s = .next (settled (examinedV1 h s))

/-- R214 to R224: the same of a V2 block, whose header checksum is compared as well (R219). The block's word is run by
log 15; after the checksum `RES` holds it and `DAT` 0 (DEDUCED, log 18: R219 writes `HCSOUT` only); `draws` is
log 19. -/
def Obligations.BlockV2IsExaminedAndReported : Prop :=
  ∀ (s : State) (h : HeaderV2), s.busy = false → s.ws = .scanningV2 → h.signature = 0x0000005A#32 →
    (s.re = false ∨ ((examinedV2 h s).short = false ∧ (examinedV2 h s).crcbad = false ∧
      (examinedV2 h s).hcsbad = false)) →
    exec (.blockV2 h) s = .next (settled (examinedV2 h s))

/-- R214 with R217: `WALK.STEP` at a whole header with the mode's signature, repair off: the block the file holds at
the cursor is examined and reported. As in the two statements above, `HB[20..23]` after a V1 header are free values
(DEDUCED, log 9), `RES` and `DAT` keep what the checksum left (DEDUCED, log 18), and `draws` is log 19. -/
def Obligations.WalkStepExaminesOneBlock : Prop :=
  (∀ (s : State) (h : HeaderV1), s.busy = false → s.ws = .scanningV1 → s.re = false → h.signature = 0xAA55#16 →
    s.cur + 20 ≤ s.fileLen → memRead s.mem s.cur 20 = encV1 h →
    exec .walkStep s = .next (settled (examinedV1 h s))) ∧
  (∀ (s : State) (h : HeaderV2), s.busy = false → s.ws = .scanningV2 → s.re = false → h.signature = 0x0000005A#32 →
    s.cur + 24 ≤ s.fileLen → memRead s.mem s.cur 24 = encV2 h →
    exec .walkStep s = .next (settled (examinedV2 h s)))

/-! ### Repair -/

/-- R223, R261, R263: a mismatch with repair on and a storage port that answers `Ok`: the header with the observed CRC,
for V2 with the checksum over the updated bytes, and under `WriteObserved` with the observed length, is written over
the block's header; the flags and the record keep the block as found; the cursor is where the payload ended. The
block's word is run by log 15, the port's answer is taken from the model's queue (log 7), and `RES` and `DAT` keep what
the last checksum left in them (DEDUCED, log 18). -/
def Obligations.RepairWritesTheCorrectedHeader : Prop :=
  (∀ (s : State) (h : HeaderV1) (rest : List PortAnswer), s.busy = false → s.ws = .scanningV1 →
    h.signature = 0xAA55#16 → s.re = true → s.writeAccess = true → s.answers = .ok :: rest →
    s.cur + 20 ≤ s.fileLen →
    ((examinedV1 h s).short = true ∨ (examinedV1 h s).crcbad = true) →
    let x := examinedV1 h s
    let h' := correctedV1 s.params.repairLenPolicy h x.cnt x.crcout
    ∃ hb, hb.length = 24 ∧ hb.take 20 = encV1 h' ∧
      exec (.blockV1 h) s = .next (settled { x with
        dh := .v1 h', hb := hb, saved := x.cur, answers := rest, mem := memWrite s.mem s.cur (encV1 h') })) ∧
  (∀ (s : State) (h : HeaderV2) (rest : List PortAnswer), s.busy = false → s.ws = .scanningV2 →
    h.signature = 0x0000005A#32 → s.re = true → s.writeAccess = true → s.answers = .ok :: rest →
    s.cur + 24 ≤ s.fileLen →
    ((examinedV2 h s).short = true ∨ (examinedV2 h s).crcbad = true ∨ (examinedV2 h s).hcsbad = true) →
    let x := examinedV2 h s
    let h' := correctedV2 s.params.repairLenPolicy s.params.hcsSeed h x.cnt x.crcout
    exec (.blockV2 h) s = .next (settled { x with
      dh := .v2 h', hb := encV2 h', res := h'.headerChecksum, dat := 0#8, hcsout := h'.headerChecksum,
      saved := x.cur, answers := rest, mem := memWrite s.mem s.cur (encV2 h') }))

/-- R225, R263, R266, R284, R331: a mismatch with repair on and a rewrite that fails (the port answers with a failure,
or has no write access): the block's record and then `RepairFatal` are in the log, the walker is in `Fatal` with
`REPAIR_IO` even if the block was short; nothing is said of the file's bytes and the cursor, but its length is what it
was (R44, R66; that a failed write keeps it too is DEDUCED, log 6). The port's answer is taken from the model's queue
(log 7) and the block's word is run by log 15. -/
def Obligations.FailedRepairIsFatal : Prop :=
  ∀ (s x : State) (i : Instr) (o : PortAnswer) (stage : RepairStage) (rest : List PortAnswer),
    s.busy = false → s.re = true → s.cur + modeSize s.ws ≤ s.fileLen →
    ((∃ h, i = .blockV1 h ∧ s.ws = .scanningV1 ∧ h.signature = 0xAA55#16 ∧ x = examinedV1 h s) ∨
      (∃ h, i = .blockV2 h ∧ s.ws = .scanningV2 ∧ h.signature = 0x0000005A#32 ∧ x = examinedV2 h s)) →
    (x.short = true ∨ x.crcbad = true ∨ x.hcsbad = true) →
    ((s.writeAccess = false ∧ stage = .write) ∨
      (s.writeAccess = true ∧ s.answers = o :: rest ∧
        (o = .failSeek ∧ stage = .seek ∨ o = .failWrite ∧ stage = .write ∨ o = .failSeekBack ∧ stage = .seekBack))) →
    ∃ t, exec i s = .next t ∧ t.ws = .fatal ∧ t.cause = .repairIo ∧ t.exitCode = true ∧ t.busy = false ∧
      t.rpt = x.rpt ++ [.repairFatal s.cur stage] ∧ t.fileLen = s.fileLen

/-- R264 with R263: `RPR.REWRITE` of a whole header that lies inside the file, the port answering `Ok`: the first `HBN`
bytes of the buffer are in the file at `HOFF`, every other byte of the file and every other register is what it was
(`SAVED` holds the cursor). The answer is taken from the model's queue (log 7). -/
def Obligations.RewritePutsTheBufferIntoTheFile : Prop :=
  ∀ (s : State) (rest : List PortAnswer), s.busy = false →
    (s.ws = .idle ∨ s.ws = .stoppedClean ∨ s.ws = .stoppedError) → (s.hbn = 20#5 ∨ s.hbn = 24#5) →
    s.hb.length = 24 → memWf s.mem = true → s.answers = .ok :: rest →
    s.hoff + s.hbn.toNat ≤ s.fileLen →
    ∃ t, exec .rprRewrite s = .next t ∧
      t = { accept s with busy := false, saved := s.cur, answers := rest, mem := t.mem } ∧
      (∀ a, memGet t.mem a =
        if s.hoff ≤ a ∧ a < s.hoff + s.hbn.toNat then s.hb.getD (a - s.hoff) 0#8
        else memGet s.mem a)

/-- R264, R265, R284: a host's `RPR.REWRITE` that passes the end of the file, or that the port fails, is fatal; the
failing stage is recorded; nothing is said of the file and the cursor. `HOFF` plus the size is compared with `L` as a
number, which does not wrap at `2^OFFSET_W` (DEDUCED, log 20); the port's answer is taken from the model's queue
(log 7). -/
def Obligations.FailedRewriteIsFatal : Prop :=
  ∀ s : State, s.busy = false → (s.ws = .idle ∨ s.ws = .stoppedClean ∨ s.ws = .stoppedError) →
    (s.hbn = 20#5 ∨ s.hbn = 24#5) →
    (s.fileLen < s.hoff + s.hbn.toNat →
      ∃ t, exec .rprRewrite s = .next t ∧ t.rpt = s.rpt ++ [.repairFatal s.hoff .write] ∧ t.ws = .fatal ∧
        t.cause = .repairIo ∧ t.exitCode = true ∧ t.busy = false) ∧
    (∀ (o : PortAnswer) (stage : RepairStage) (rest : List PortAnswer),
      s.hoff + s.hbn.toNat ≤ s.fileLen → s.answers = o :: rest →
      (o = .failSeek ∧ stage = .seek ∨ o = .failWrite ∧ stage = .write ∨ o = .failSeekBack ∧ stage = .seekBack) →
      ∃ t, exec .rprRewrite s = .next t ∧ t.rpt = s.rpt ++ [.repairFatal s.hoff stage] ∧ t.ws = .fatal ∧
        t.cause = .repairIo ∧ t.exitCode = true ∧ t.busy = false)

/-- R262, R263, R223: whatever a `WALK.STEP` that does not end `Fatal` does, a byte of the file outside the block's
header is what it was, and inside the header only the bytes of the table of R262 can differ. -/
def Obligations.RepairChangesOnlyCorrectableBytes : Prop :=
  ∀ (s t : State) (a : Nat), s.busy = false → scanAccepts s.ws = true → memWf s.mem = true →
    exec .walkStep s = .next t → t.ws ≠ .fatal →
    (a < s.cur ∨
      correctable s.ws (t.short && s.params.repairLenPolicy == .writeObserved) (a - s.cur) = false) →
    memGet t.mem a = memGet s.mem a

/-- R268 for one block: examine a block with repair on, without `Fatal`, then examine the block at the same offset
again (`CUR` put back, and for a short final block the scanning state too). Where the first scan went on, the second
finds no mismatch, asks the storage port for nothing and leaves the file as it is. After a short final block the second
finds the CRC and the header checksum right; under `WriteObserved` nor is it short, the scan goes on and nothing is
written; under `KeepDeclared` it is short again, and its header is written again with the same bytes, unless that write
fails. -/
def Obligations.RepairedBlockNeedsNoRepair : Prop :=
  ∀ s t u v : State, s.wf = true → scanAccepts s.ws = true → s.re = true → exec .walkStep s = .next t →
    u = { t with cur := s.cur, ws := s.ws } → exec .walkStep u = .next v →
    (t.ws = s.ws →
      v.ws = t.ws ∧ v.crcbad = false ∧ v.hcsbad = false ∧ v.short = false ∧ v.mem = t.mem ∧
        v.answers = t.answers ∧ v.cur = t.cur) ∧
    (t.ws = .stoppedError → t.cause = .payloadShortfall →
      v.crcbad = false ∧ v.hcsbad = false ∧
      (s.params.repairLenPolicy = .writeObserved →
        v.short = false ∧ v.ws = s.ws ∧ v.mem = t.mem ∧ v.answers = t.answers ∧ v.cur = t.cur) ∧
      (s.params.repairLenPolicy = .keepDeclared →
        v.short = true ∧
          (v.ws ≠ .fatal → v.ws = .stoppedError ∧ v.cause = .payloadShortfall ∧ v.mem = t.mem ∧ v.cur = t.cur)))

/-! ### The whole scan -/

/-- R226, R230, R231 (log 21): `WALK.RUN` on an idle core with a table ends: the walker is in an end state and `BUSY` is 0. -/
def Obligations.WalkRunEndsTheScan : Prop :=
  ∀ s : State, s.busy = false → s.ws = .idle → s.tv = true →
    ∃ t, exec .walkRun s = .next t ∧ t.busy = false ∧
      (t.ws = .stoppedClean ∨ t.ws = .stoppedError ∨ t.ws = .fatal)

/-- R230: `WALK.RUN` leaves what `WALK.PROBE` and then `WALK.STEP`, issued one by one while a scan is under way, leave
(with no host input arriving in between), within the `floor(L / 20) + 1` steps of R226 (DEDUCED, log 21: a bound, not a
cut). -/
def Obligations.WalkRunIsProbeThenSteps : Prop :=
  ∀ s p : State, s.busy = false → s.ws = .idle → s.tv = true → takeOverlapping s.inputs = (false, s.inputs) →
    exec .walkProbe s = .next p → exec .walkRun s = stepWhileScanning (scanBound s) p

/-- R24, R23, R226: a step of a scan that does not end `Fatal` never moves the cursor down nor beyond the end of the
file, and where the scan goes on it moves it by at least the size of a header. -/
def Obligations.CursorAdvancesInsideTheFile : Prop :=
  ∀ s t : State, s.busy = false → scanAccepts s.ws = true → s.cur ≤ s.fileLen → exec .walkStep s = .next t →
    t.ws ≠ .fatal →
    s.cur ≤ t.cur ∧ t.cur ≤ s.fileLen ∧ t.fileLen = s.fileLen ∧
      (t.ws = s.ws → s.cur + modeSize s.ws ≤ t.cur ∧ t.cur = s.cur + modeSize s.ws + t.cnt.toNat)

/-- R233: no operation changes the mode of a scan: out of a scanning state it leads only to that state, to a stopped
state or to `Fatal`. -/
def Obligations.ModeNeverChangesInAScan : Prop :=
  ∀ (i : Instr) (s t : State), scanAccepts s.ws = true → exec i s = .next t →
    t.ws = s.ws ∨ t.ws = .stoppedClean ∨ t.ws = .stoppedError ∨ t.ws = .fatal

/-! ### Rules over every instruction -/

/-- R29, R31, R38, R66, R7: over all instructions: only `CRC.BUILD` writes the table and `TV`; only the probe writes
`RE`; no operation writes `CFG`, the length of the file, the host's grant or a parameter. -/
def Obligations.OnlyTheNamedOperationsWrite : Prop :=
  ∀ (i : Instr) (s t : State), exec i s = .next t →
    (i ≠ .crcBuild → t.table = s.table ∧ t.tv = s.tv) ∧
    (i ≠ .walkProbe → i ≠ .walkRun → t.re = s.re) ∧
    t.repairEn = s.repairEn ∧ t.fileLen = s.fileLen ∧ t.writeAccess = s.writeAccess ∧ t.params = s.params

/-- R20, R65, R223, R260, R264: over all instructions: the file changes only by `RPR.REWRITE`, or in a scan whose
latched repair flag is 1. -/
def Obligations.FileChangesOnlyByRepair : Prop :=
  ∀ (i : Instr) (s t : State), exec i s = .next t → t.mem ≠ s.mem →
    i = .rprRewrite ∨
      (t.re = true ∧
        (i = .walkStep ∨ i = .walkRun ∨ (∃ h, i = .blockV1 h) ∨ (∃ h, i = .blockV2 h)))

/-- R45, R287 with R216, R218, R224, R212, R263: over all instructions: nothing is ever removed from the report log. An
operation that does not enter an end state adds `Block` records only. One that ends the scan, or is fatal, adds behind
them exactly one record, of the kind its end calls for; after a payload shortfall that record is the last block's own,
which shows the shortfall. -/
def Obligations.ReportLogOnlyGrows : Prop :=
  ∀ (i : Instr) (s t : State), exec i s = .next t →
    ∃ pre last, t.rpt = s.rpt ++ pre ++ last ∧ (∀ r ∈ pre, ∃ b, r = .block b) ∧
      (t.ws = s.ws ∨ scanAccepts t.ws = true → last = []) ∧
      (t.ws ≠ s.ws → t.ws = .stoppedClean → last = [.cleanEnd t.hoff]) ∧
      (t.ws ≠ s.ws → t.ws = .stoppedError →
        (t.cause = .probeUnreadable ∧ ∃ k, last = [.probeUnreadable t.cur k]) ∨
          (t.cause = .probeUnrecognized ∧ ∃ x, last = [.probeUnrecognized t.cur x]) ∨
          (t.cause = .incompleteHeader ∧ ∃ k, last = [.incompleteHeader t.hoff k]) ∨
          (t.cause = .badSignature ∧ last = [.badSignature t.hoff t.dh.signature t.dh]) ∨
          (t.cause = .payloadShortfall ∧ ∃ b : BlockRecord, last = [.block b] ∧ b.shortfall = true ∧
            b.headerOffset = t.hoff)) ∧
      (t.ws ≠ s.ws → t.ws = .fatal → ∃ stage, last = [.repairFatal t.hoff stage])

/-- R20: over all instructions: every operation ends with `BUSY` 0, but a command that met a busy core. -/
def Obligations.EveryOperationEnds : Prop :=
  ∀ (i : Instr) (s : State), ∃ t, exec i s = .next t ∧ t.busy = s.busy

/-! ### Invariants -/

/-- The reset state meets the invariants below. -/
def Obligations.ResetMeetsTheInvariants : Prop :=
  State.reset.wf = true ∧ State.reset.tableOk ∧ State.reset.endOk ∧ State.reset.logOk

/-- Every step keeps the state well formed: the file in canonical form inside its length (R61, R66), 24 bytes of header
buffer with at most 24 valid (R26), 256 table entries (R29), parameters in range (R7), no operation left in progress
(R20), and the file's length and every offset register inside `OFFSET_W` bits (R22, R25, R32, R211, log 1). -/
def Obligations.StepKeepsTheStateWellFormed : Prop :=
  ∀ s t : State, s.wf = true → step s = .next t → t.wf = true

/-- Every step keeps: a valid table holds the constants of R132, and a scan has a valid table and a cursor inside the
file (R24, R29, R325). -/
def Obligations.StepKeepsTheTableBuilt : Prop :=
  ∀ s t : State, s.tableOk → step s = .next t → t.tableOk

/-- Every step keeps: exit code and cause agree with the end the walker reached (R35, R42, R283, R284). -/
def Obligations.StepKeepsExitAndCauseOfTheEnd : Prop :=
  ∀ s t : State, s.endOk → step s = .next t → t.endOk

/-- Every step keeps: the log is empty before a scan, all its `Block` records have one format, and their header offsets
ascend (R233). -/
def Obligations.StepKeepsTheLogInOrder : Prop :=
  ∀ s t : State, s.tableOk → s.logOk → step s = .next t → t.logOk
end

