-- ==== Sys2Proof/Laws/Decode.lean ====
section
/-! SUPPORT. Small laws of the byte order and the header layouts. -/

namespace Sys2Proof

@[simp] theorem bytes16_length (v : Half) : (bytes16 v).length = 2 := rfl

@[simp] theorem bytes32_length (v : Word) : (bytes32 v).length = 4 := rfl

@[simp] theorem encV1_length (h : HeaderV1) : (encV1 h).length = 20 := rfl

@[simp] theorem encV2_length (h : HeaderV2) : (encV2 h).length = 24 := rfl

@[simp] theorem bytesOfWord_length (n w : Nat) : (bytesOfWord n w).length = n := by simp [bytesOfWord]

/-- A byte of the front of a sequence is not moved by what follows. -/
theorem byteAt_append_left {A : List Byte} (B : List Byte) {o : Nat} (h : o < A.length) :
    byteAt (A ++ B) o = byteAt A o := by
  simp [byteAt, List.getD_eq_getElem?_getD, List.getElem?_append_left h]

/-- The first `n` bytes of a sequence keep their place. -/
theorem byteAt_take {B : List Byte} {n o : Nat} (h : o < n) : byteAt (B.take n) o = byteAt B o := by
  simp [byteAt, List.getD_eq_getElem?_getD, h]

/-- `le16` reads two bytes back as the field they came from (R9). -/
theorem half_of_bytes (v : Half) :
    (v.extractLsb' 0 8).setWidth 16 ||| ((v.extractLsb' 8 8).setWidth 16 <<< 8) = v := by
  ext i hi
  simp only [BitVec.getElem_or, BitVec.getElem_setWidth, BitVec.getElem_shiftLeft, BitVec.getLsbD_extractLsb']
  by_cases h : i < 8
  · simp [h, BitVec.getLsbD_eq_getElem hi]
  · have e : 8 + (i - 8) = i := by omega
    have h2 : i - 8 < 8 := by omega
    simp [h, e, h2, BitVec.getLsbD_eq_getElem hi]

/-- `le32` reads four bytes back as the field they came from (R9). -/
theorem word_of_bytes (v : Word) :
    (v.extractLsb' 0 8).setWidth 32 ||| ((v.extractLsb' 8 8).setWidth 32 <<< 8) |||
      ((v.extractLsb' 16 8).setWidth 32 <<< 16) ||| ((v.extractLsb' 24 8).setWidth 32 <<< 24) = v := by
  ext i hi
  simp only [BitVec.getElem_or, BitVec.getElem_setWidth, BitVec.getElem_shiftLeft, BitVec.getLsbD_extractLsb']
  have hcase : i < 8 ∨ (8 ≤ i ∧ i < 16) ∨ (16 ≤ i ∧ i < 24) ∨ 24 ≤ i := by omega
  rcases hcase with h | h | h | h
  · have : i < 16 := by omega
    have : i < 24 := by omega
    simp [*]
  · have e : 8 + (i - 8) = i := by omega
    have h1 : ¬ i < 8 := by omega
    have h2 : i - 8 < 8 := by omega
    have h3 : i < 24 := by omega
    simp [h.2, h1, h2, h3, e, BitVec.getLsbD_eq_getElem hi]
  · have e : 16 + (i - 16) = i := by omega
    have h1 : ¬ i < 8 := by omega
    have h2 : ¬ i < 16 := by omega
    have h3 : i - 16 < 8 := by omega
    have h4 : ¬ i - 8 < 8 := by omega
    simp [h.2, h1, h2, h3, h4, e, BitVec.getLsbD_eq_getElem hi]
  · have e : 24 + (i - 24) = i := by omega
    have h1 : ¬ i < 8 := by omega
    have h2 : ¬ i < 16 := by omega
    have h3 : ¬ i < 24 := by omega
    have h4 : i - 24 < 8 := by omega
    have h5 : ¬ i - 16 < 8 := by omega
    have h6 : ¬ i - 8 < 8 := by omega
    simp [h1, h2, h3, h4, h5, h6, e, BitVec.getLsbD_eq_getElem hi]

end Sys2Proof
end

