-- ==== Sys2Proof/Laws/Memory.lean ====
section
/-! SUPPORT. The file store: read after write, and that every memory operation keeps the canonical form. -/

namespace Sys2Proof.Machine

/-! ### The canonical form -/

theorem memWfFrom_mono {lo lo' : Nat} (h : lo' ≤ lo) {m : List Host.Cell} (hm : memWfFrom lo m = true) :
    memWfFrom lo' m = true := by
  cases m with
  | nil => rfl
  | cons c rest =>
    simp only [memWfFrom, Bool.and_eq_true, decide_eq_true_eq] at hm ⊢
    exact ⟨⟨by omega, hm.1.2⟩, hm.2⟩

/-- Below the first listed offset every byte is 0. -/
theorem memGet_below {m : List Host.Cell} {lo a : Nat} (hm : memWfFrom lo m = true) (ha : a < lo) :
    memGet m a = 0#8 := by
  induction m generalizing lo with
  | nil => rfl
  | cons c rest ih =>
    simp only [memWfFrom, Bool.and_eq_true, decide_eq_true_eq] at hm
    rw [memGet, if_neg (by omega)]
    exact ih hm.2 (by omega)

theorem memSet_wfFrom {m : List Host.Cell} {lo a : Nat} (b : Byte) (hm : memWfFrom lo m = true) (ha : lo ≤ a) :
    memWfFrom lo (memSet m a b) = true := by
  induction m generalizing lo with
  | nil => by_cases hb : b = 0#8 <;> simp [memSet, memWfFrom, hb, ha]
  | cons c rest ih =>
    obtain ⟨k, v⟩ := c
    simp only [memWfFrom, Bool.and_eq_true, decide_eq_true_eq] at hm
    obtain ⟨⟨hk, hv⟩, hr⟩ := hm
    simp only [memSet]
    split_ifs with h1 h2 h3 h4
    · simp [memWfFrom, hk, hv, hr]
    · simp [memWfFrom, ha, h2, hv, hr]; omega
    · exact memWfFrom_mono (by omega) hr
    · subst h3; simp [memWfFrom, hk, h4, hr]
    · simp [memWfFrom, hk, hv]; exact ih hr (by omega)

/-- Setting a byte keeps the canonical form. -/
theorem memSet_wf {m : List Host.Cell} (a : Nat) (b : Byte) (hm : memWf m = true) : memWf (memSet m a b) = true :=
  memSet_wfFrom b hm (Nat.zero_le a)

/-- `MemWrite` keeps the canonical form. -/
theorem memWrite_wf {m : List Host.Cell} (a : Nat) (B : List Byte) (hm : memWf m = true) :
    memWf (memWrite m a B) = true := by
  induction B generalizing m a with
  | nil => exact hm
  | cons b rest ih => exact ih (a + 1) (memSet_wf a b hm)

theorem memFillOnto_wfFrom (f : Nat → Byte) (n : Nat) {acc : List Host.Cell} (h : memWfFrom n acc = true) :
    memWfFrom 0 (memFillOnto f n acc) = true := by
  induction n generalizing acc with
  | zero => exact h
  | succ n ih =>
    rw [memFillOnto]
    apply ih
    split_ifs with hz
    · exact memWfFrom_mono (by omega) h
    · simp [memWfFrom, hz, h]

/-- A filled memory is in canonical form. -/
theorem memFill_wf (f : Nat → Byte) (n : Nat) : memWf (memFill f n) = true := memFillOnto_wfFrom f n rfl

/-- The memory of the reset state is in canonical form. -/
theorem reset_memWf : memWf State.reset.mem = true := rfl

/-! ### Reading what was written -/

/-- One byte set: the offset set holds the new byte, every other offset what it held. -/
theorem memGet_memSet {m : List Host.Cell} {lo : Nat} (hm : memWfFrom lo m = true) (a : Nat) (b : Byte) (x : Nat) :
    memGet (memSet m a b) x = if x = a then b else memGet m x := by
  induction m generalizing lo with
  | nil => by_cases hb : b = 0#8 <;> simp [memSet, memGet, hb]
  | cons c rest ih =>
    obtain ⟨k, v⟩ := c
    simp only [memWfFrom, Bool.and_eq_true, decide_eq_true_eq] at hm
    obtain ⟨⟨hk, hv⟩, hr⟩ := hm
    have hbelow : ∀ y, y < k + 1 → memGet rest y = 0#8 := fun y hy => memGet_below hr hy
    simp only [memSet]
    by_cases h1 : a < k
    · by_cases h2 : b = 0#8
      · by_cases hx : x = a
        · subst hx
          have hxk : x ≠ k := by omega
          simp [h1, h2, memGet, hxk, hbelow x (by omega)]
        · simp [h1, h2, hx]
      · by_cases hx : x = a <;> simp [h1, h2, hx, memGet]
    · by_cases h3 : a = k
      · subst h3
        by_cases h4 : b = 0#8
        · by_cases hx : x = a
          · simp [h4, hx, hbelow a (by omega)]
          · simp [h4, hx, memGet]
        · by_cases hx : x = a <;> simp [h4, hx, memGet]
      · by_cases hxk : x = k
        · simp [h1, h3, hxk, memGet, Ne.symm h3]
        · simp [h1, h3, hxk, memGet, ih hr]

/-- `MemWrite`: offset `a + k` holds byte `k` of what was written, every other offset what it held (R65). -/
theorem memGet_memWrite {m : List Host.Cell} (hm : memWf m = true) (a : Nat) (B : List Byte) (x : Nat) :
    memGet (memWrite m a B) x = if a ≤ x ∧ x < a + B.length then B.getD (x - a) 0#8 else memGet m x := by
  induction B generalizing m a with
  | nil => simp [memWrite]
  | cons b rest ih =>
    rw [memWrite, ih (memSet_wf a b hm), memGet_memSet hm]
    by_cases hx : x = a
    · subst hx; simp
    · by_cases hin : a + 1 ≤ x ∧ x < a + 1 + rest.length
      · have e : x - a = (x - (a + 1)) + 1 := by omega
        rw [if_pos hin, if_pos (by simp only [List.length_cons]; omega), e, List.getD_cons_succ]
      · rw [if_neg hin, if_neg hx, if_neg (by simp only [List.length_cons]; omega)]

theorem memFillOnto_get (f : Nat → Byte) (n : Nat) {acc : List Host.Cell} (h : memWfFrom n acc = true) (x : Nat) :
    memGet (memFillOnto f n acc) x = if x < n then f x else memGet acc x := by
  induction n generalizing acc with
  | zero => simp [memFillOnto]
  | succ n ih =>
    rw [memFillOnto]
    split_ifs with hz hx hx
    · rw [ih (memWfFrom_mono (by omega) h)]
      split_ifs with hxn
      · rfl
      · have : x = n := by omega
        subst this; rw [hz]; exact memGet_below h (by omega)
    · rw [ih (memWfFrom_mono (by omega) h), if_neg (by omega)]
    · rw [ih (by simp [memWfFrom, hz, h])]
      split_ifs with hxn
      · rfl
      · have : x = n := by omega
        subst this; simp [memGet]
    · rw [ih (by simp [memWfFrom, hz, h]), if_neg (by omega), memGet, if_neg (by omega)]

/-- A filled memory holds `f x` below its bound and 0 above. -/
theorem memGet_memFill (f : Nat → Byte) (n x : Nat) : memGet (memFill f n) x = if x < n then f x else 0#8 :=
  memFillOnto_get f n rfl x

/-! ### Staying inside the file -/

theorem memSet_below {m : List Host.Cell} {len a : Nat} (b : Byte) (hm : memBelow m len = true) (ha : a < len) :
    memBelow (memSet m a b) len = true := by
  induction m with
  | nil => by_cases hb : b = 0#8 <;> simp [memSet, memBelow, hb, ha]
  | cons c rest ih =>
    obtain ⟨k, v⟩ := c
    simp only [memBelow, List.all_cons, Bool.and_eq_true, decide_eq_true_eq] at hm ih
    have hset := ih hm.2
    simp only [memSet, memBelow]
    split_ifs
    · simpa using hm
    · simpa using And.intro ha hm
    · simpa using hm.2
    · simpa using And.intro ha hm.2
    · simpa [memBelow] using And.intro hm.1 hset

/-- A `MemWrite` that ends inside the file lists nothing outside it (R66). -/
theorem memWrite_below {m : List Host.Cell} {len : Nat} (a : Nat) (B : List Byte) (hm : memBelow m len = true)
    (h : a + B.length ≤ len) : memBelow (memWrite m a B) len = true := by
  induction B generalizing m a with
  | nil => exact hm
  | cons b rest ih =>
    simp only [List.length_cons] at h
    exact ih (a + 1) (memSet_below b hm (by omega)) (by omega)

theorem memFillOnto_below (f : Nat → Byte) (n len : Nat) {acc : List Host.Cell} (hacc : memBelow acc len = true)
    (hn : n ≤ len) : memBelow (memFillOnto f n acc) len = true := by
  induction n generalizing acc with
  | zero => exact hacc
  | succ n ih =>
    rw [memFillOnto]
    apply ih _ (by omega)
    split_ifs
    · exact hacc
    · simp only [memBelow, List.all_cons, Bool.and_eq_true, decide_eq_true_eq] at hacc ⊢
      exact ⟨by omega, hacc⟩

/-- A filled memory lists nothing at or above its bound. -/
theorem memFill_below (f : Nat → Byte) (n : Nat) : memBelow (memFill f n) n = true :=
  memFillOnto_below f n n rfl (Nat.le_refl n)

/-! ### Stream reads -/

@[simp] theorem memRead_length (m : List Host.Cell) (a n : Nat) : (memRead m a n).length = n := by simp [memRead]

@[simp] theorem memRead_zero (m : List Host.Cell) (a : Nat) : memRead m a 0 = [] := rfl

/-- A read is the read of its first bytes, then of the rest (R63). -/
theorem memRead_add (m : List Host.Cell) (a n k : Nat) : memRead m a (n + k) = memRead m a n ++ memRead m (a + n) k := by
  simp [memRead, List.range_add, Nat.add_assoc]

@[simp] theorem streamBytes_length (m : List Host.Cell) (len cur : Nat) (n : Nat) :
    (streamBytes m len cur n).length = streamCount len cur n := by simp [streamBytes]

/-- A stream read returns at most the bytes asked for (R64). -/
theorem streamCount_le (len cur : Nat) (n : Nat) : streamCount len cur n ≤ n := by
  rw [streamCount]; split_ifs <;> omega

/-- At or beyond the end of the file a stream read returns nothing (R64). -/
theorem streamCount_of_le {len cur : Nat} (h : len ≤ cur) (n : Nat) : streamCount len cur n = 0 := by
  rw [streamCount, if_pos h]

/-- Inside the file a stream read is clipped at its end (R64). -/
theorem streamCount_of_lt {len cur : Nat} (h : cur < len) (n : Nat) : streamCount len cur n = min n (len - cur) := by
  rw [streamCount, if_neg (Nat.not_le_of_gt h)]

/-- A stream read that starts inside the file ends inside it. -/
theorem streamCount_inside {len cur : Nat} (h : cur ≤ len) (n : Nat) : cur + streamCount len cur n ≤ len := by
  rw [streamCount]; split_ifs <;> omega

end Sys2Proof.Machine
end

