-- ==== Sys2Proof/Laws/State.lean ====
section
/-! SUPPORT. What each named update of the state leaves in each field it does not write, one lemma per field per
update, true by rfl. -/

namespace Sys2Proof.Machine

/-! ### `emit` (R45) -/

@[simp] theorem emit_cur (r : Record) (s : State) : (emit r s).cur = s.cur := rfl
@[simp] theorem emit_hoff (r : Record) (s : State) : (emit r s).hoff = s.hoff := rfl
@[simp] theorem emit_saved (r : Record) (s : State) : (emit r s).saved = s.saved := rfl
@[simp] theorem emit_crc (r : Record) (s : State) : (emit r s).crc = s.crc := rfl
@[simp] theorem emit_crcout (r : Record) (s : State) : (emit r s).crcout = s.crcout := rfl
@[simp] theorem emit_cnt (r : Record) (s : State) : (emit r s).cnt = s.cnt := rfl
@[simp] theorem emit_maxb (r : Record) (s : State) : (emit r s).maxb = s.maxb := rfl
@[simp] theorem emit_res (r : Record) (s : State) : (emit r s).res = s.res := rfl
@[simp] theorem emit_dat (r : Record) (s : State) : (emit r s).dat = s.dat := rfl
@[simp] theorem emit_hcsout (r : Record) (s : State) : (emit r s).hcsout = s.hcsout := rfl
@[simp] theorem emit_hb (r : Record) (s : State) : (emit r s).hb = s.hb := rfl
@[simp] theorem emit_hbn (r : Record) (s : State) : (emit r s).hbn = s.hbn := rfl
@[simp] theorem emit_dh (r : Record) (s : State) : (emit r s).dh = s.dh := rfl
@[simp] theorem emit_table (r : Record) (s : State) : (emit r s).table = s.table := rfl
@[simp] theorem emit_tv (r : Record) (s : State) : (emit r s).tv = s.tv := rfl
@[simp] theorem emit_ws (r : Record) (s : State) : (emit r s).ws = s.ws := rfl
@[simp] theorem emit_re (r : Record) (s : State) : (emit r s).re = s.re := rfl
@[simp] theorem emit_busy (r : Record) (s : State) : (emit r s).busy = s.busy := rfl
@[simp] theorem emit_incomplete (r : Record) (s : State) : (emit r s).incomplete = s.incomplete := rfl
@[simp] theorem emit_sigok (r : Record) (s : State) : (emit r s).sigok = s.sigok := rfl
@[simp] theorem emit_short (r : Record) (s : State) : (emit r s).short = s.short := rfl
@[simp] theorem emit_crcbad (r : Record) (s : State) : (emit r s).crcbad = s.crcbad := rfl
@[simp] theorem emit_hcsbad (r : Record) (s : State) : (emit r s).hcsbad = s.hcsbad := rfl
@[simp] theorem emit_refused (r : Record) (s : State) : (emit r s).refused = s.refused := rfl
@[simp] theorem emit_exitCode (r : Record) (s : State) : (emit r s).exitCode = s.exitCode := rfl
@[simp] theorem emit_cause (r : Record) (s : State) : (emit r s).cause = s.cause := rfl
@[simp] theorem emit_repairEn (r : Record) (s : State) : (emit r s).repairEn = s.repairEn := rfl
@[simp] theorem emit_mem (r : Record) (s : State) : (emit r s).mem = s.mem := rfl
@[simp] theorem emit_fileLen (r : Record) (s : State) : (emit r s).fileLen = s.fileLen := rfl
@[simp] theorem emit_writeAccess (r : Record) (s : State) : (emit r s).writeAccess = s.writeAccess := rfl
@[simp] theorem emit_params (r : Record) (s : State) : (emit r s).params = s.params := rfl
@[simp] theorem emit_inputs (r : Record) (s : State) : (emit r s).inputs = s.inputs := rfl
@[simp] theorem emit_answers (r : Record) (s : State) : (emit r s).answers = s.answers := rfl
@[simp] theorem emit_draws (r : Record) (s : State) : (emit r s).draws = s.draws := rfl

/-! ### `stop(clean)` (R283) -/

@[simp] theorem stopClean_cur (s : State) : (stopClean s).cur = s.cur := rfl
@[simp] theorem stopClean_hoff (s : State) : (stopClean s).hoff = s.hoff := rfl
@[simp] theorem stopClean_saved (s : State) : (stopClean s).saved = s.saved := rfl
@[simp] theorem stopClean_crc (s : State) : (stopClean s).crc = s.crc := rfl
@[simp] theorem stopClean_crcout (s : State) : (stopClean s).crcout = s.crcout := rfl
@[simp] theorem stopClean_cnt (s : State) : (stopClean s).cnt = s.cnt := rfl
@[simp] theorem stopClean_maxb (s : State) : (stopClean s).maxb = s.maxb := rfl
@[simp] theorem stopClean_res (s : State) : (stopClean s).res = s.res := rfl
@[simp] theorem stopClean_dat (s : State) : (stopClean s).dat = s.dat := rfl
@[simp] theorem stopClean_hcsout (s : State) : (stopClean s).hcsout = s.hcsout := rfl
@[simp] theorem stopClean_hb (s : State) : (stopClean s).hb = s.hb := rfl
@[simp] theorem stopClean_hbn (s : State) : (stopClean s).hbn = s.hbn := rfl
@[simp] theorem stopClean_dh (s : State) : (stopClean s).dh = s.dh := rfl
@[simp] theorem stopClean_table (s : State) : (stopClean s).table = s.table := rfl
@[simp] theorem stopClean_tv (s : State) : (stopClean s).tv = s.tv := rfl
@[simp] theorem stopClean_re (s : State) : (stopClean s).re = s.re := rfl
@[simp] theorem stopClean_incomplete (s : State) : (stopClean s).incomplete = s.incomplete := rfl
@[simp] theorem stopClean_sigok (s : State) : (stopClean s).sigok = s.sigok := rfl
@[simp] theorem stopClean_short (s : State) : (stopClean s).short = s.short := rfl
@[simp] theorem stopClean_crcbad (s : State) : (stopClean s).crcbad = s.crcbad := rfl
@[simp] theorem stopClean_hcsbad (s : State) : (stopClean s).hcsbad = s.hcsbad := rfl
@[simp] theorem stopClean_refused (s : State) : (stopClean s).refused = s.refused := rfl
@[simp] theorem stopClean_repairEn (s : State) : (stopClean s).repairEn = s.repairEn := rfl
@[simp] theorem stopClean_rpt (s : State) : (stopClean s).rpt = s.rpt := rfl
@[simp] theorem stopClean_mem (s : State) : (stopClean s).mem = s.mem := rfl
@[simp] theorem stopClean_fileLen (s : State) : (stopClean s).fileLen = s.fileLen := rfl
@[simp] theorem stopClean_writeAccess (s : State) : (stopClean s).writeAccess = s.writeAccess := rfl
@[simp] theorem stopClean_params (s : State) : (stopClean s).params = s.params := rfl
@[simp] theorem stopClean_inputs (s : State) : (stopClean s).inputs = s.inputs := rfl
@[simp] theorem stopClean_answers (s : State) : (stopClean s).answers = s.answers := rfl
@[simp] theorem stopClean_draws (s : State) : (stopClean s).draws = s.draws := rfl

/-! ### `stop(error)` (R283) -/

@[simp] theorem stopError_cur (c : Cause) (s : State) : (stopError c s).cur = s.cur := rfl
@[simp] theorem stopError_hoff (c : Cause) (s : State) : (stopError c s).hoff = s.hoff := rfl
@[simp] theorem stopError_saved (c : Cause) (s : State) : (stopError c s).saved = s.saved := rfl
@[simp] theorem stopError_crc (c : Cause) (s : State) : (stopError c s).crc = s.crc := rfl
@[simp] theorem stopError_crcout (c : Cause) (s : State) : (stopError c s).crcout = s.crcout := rfl
@[simp] theorem stopError_cnt (c : Cause) (s : State) : (stopError c s).cnt = s.cnt := rfl
@[simp] theorem stopError_maxb (c : Cause) (s : State) : (stopError c s).maxb = s.maxb := rfl
@[simp] theorem stopError_res (c : Cause) (s : State) : (stopError c s).res = s.res := rfl
@[simp] theorem stopError_dat (c : Cause) (s : State) : (stopError c s).dat = s.dat := rfl
@[simp] theorem stopError_hcsout (c : Cause) (s : State) : (stopError c s).hcsout = s.hcsout := rfl
@[simp] theorem stopError_hb (c : Cause) (s : State) : (stopError c s).hb = s.hb := rfl
@[simp] theorem stopError_hbn (c : Cause) (s : State) : (stopError c s).hbn = s.hbn := rfl
@[simp] theorem stopError_dh (c : Cause) (s : State) : (stopError c s).dh = s.dh := rfl
@[simp] theorem stopError_table (c : Cause) (s : State) : (stopError c s).table = s.table := rfl
@[simp] theorem stopError_tv (c : Cause) (s : State) : (stopError c s).tv = s.tv := rfl
@[simp] theorem stopError_re (c : Cause) (s : State) : (stopError c s).re = s.re := rfl
@[simp] theorem stopError_incomplete (c : Cause) (s : State) : (stopError c s).incomplete = s.incomplete := rfl
@[simp] theorem stopError_sigok (c : Cause) (s : State) : (stopError c s).sigok = s.sigok := rfl
@[simp] theorem stopError_short (c : Cause) (s : State) : (stopError c s).short = s.short := rfl
@[simp] theorem stopError_crcbad (c : Cause) (s : State) : (stopError c s).crcbad = s.crcbad := rfl
@[simp] theorem stopError_hcsbad (c : Cause) (s : State) : (stopError c s).hcsbad = s.hcsbad := rfl
@[simp] theorem stopError_refused (c : Cause) (s : State) : (stopError c s).refused = s.refused := rfl
@[simp] theorem stopError_repairEn (c : Cause) (s : State) : (stopError c s).repairEn = s.repairEn := rfl
@[simp] theorem stopError_rpt (c : Cause) (s : State) : (stopError c s).rpt = s.rpt := rfl
@[simp] theorem stopError_mem (c : Cause) (s : State) : (stopError c s).mem = s.mem := rfl
@[simp] theorem stopError_fileLen (c : Cause) (s : State) : (stopError c s).fileLen = s.fileLen := rfl
@[simp] theorem stopError_writeAccess (c : Cause) (s : State) : (stopError c s).writeAccess = s.writeAccess := rfl
@[simp] theorem stopError_params (c : Cause) (s : State) : (stopError c s).params = s.params := rfl
@[simp] theorem stopError_inputs (c : Cause) (s : State) : (stopError c s).inputs = s.inputs := rfl
@[simp] theorem stopError_answers (c : Cause) (s : State) : (stopError c s).answers = s.answers := rfl
@[simp] theorem stopError_draws (c : Cause) (s : State) : (stopError c s).draws = s.draws := rfl

/-! ### `raise Fatal` (R284) -/

@[simp] theorem raiseFatal_hoff (s : State) : (raiseFatal s).hoff = s.hoff := rfl
@[simp] theorem raiseFatal_saved (s : State) : (raiseFatal s).saved = s.saved := rfl
@[simp] theorem raiseFatal_crc (s : State) : (raiseFatal s).crc = s.crc := rfl
@[simp] theorem raiseFatal_crcout (s : State) : (raiseFatal s).crcout = s.crcout := rfl
@[simp] theorem raiseFatal_cnt (s : State) : (raiseFatal s).cnt = s.cnt := rfl
@[simp] theorem raiseFatal_maxb (s : State) : (raiseFatal s).maxb = s.maxb := rfl
@[simp] theorem raiseFatal_res (s : State) : (raiseFatal s).res = s.res := rfl
@[simp] theorem raiseFatal_dat (s : State) : (raiseFatal s).dat = s.dat := rfl
@[simp] theorem raiseFatal_hcsout (s : State) : (raiseFatal s).hcsout = s.hcsout := rfl
@[simp] theorem raiseFatal_hb (s : State) : (raiseFatal s).hb = s.hb := rfl
@[simp] theorem raiseFatal_hbn (s : State) : (raiseFatal s).hbn = s.hbn := rfl
@[simp] theorem raiseFatal_dh (s : State) : (raiseFatal s).dh = s.dh := rfl
@[simp] theorem raiseFatal_table (s : State) : (raiseFatal s).table = s.table := rfl
@[simp] theorem raiseFatal_tv (s : State) : (raiseFatal s).tv = s.tv := rfl
@[simp] theorem raiseFatal_re (s : State) : (raiseFatal s).re = s.re := rfl
@[simp] theorem raiseFatal_incomplete (s : State) : (raiseFatal s).incomplete = s.incomplete := rfl
@[simp] theorem raiseFatal_sigok (s : State) : (raiseFatal s).sigok = s.sigok := rfl
@[simp] theorem raiseFatal_short (s : State) : (raiseFatal s).short = s.short := rfl
@[simp] theorem raiseFatal_crcbad (s : State) : (raiseFatal s).crcbad = s.crcbad := rfl
@[simp] theorem raiseFatal_hcsbad (s : State) : (raiseFatal s).hcsbad = s.hcsbad := rfl
@[simp] theorem raiseFatal_refused (s : State) : (raiseFatal s).refused = s.refused := rfl
@[simp] theorem raiseFatal_repairEn (s : State) : (raiseFatal s).repairEn = s.repairEn := rfl
@[simp] theorem raiseFatal_rpt (s : State) : (raiseFatal s).rpt = s.rpt := rfl
@[simp] theorem raiseFatal_fileLen (s : State) : (raiseFatal s).fileLen = s.fileLen := rfl
@[simp] theorem raiseFatal_writeAccess (s : State) : (raiseFatal s).writeAccess = s.writeAccess := rfl
@[simp] theorem raiseFatal_params (s : State) : (raiseFatal s).params = s.params := rfl
@[simp] theorem raiseFatal_inputs (s : State) : (raiseFatal s).inputs = s.inputs := rfl
@[simp] theorem raiseFatal_answers (s : State) : (raiseFatal s).answers = s.answers := rfl

/-! ### `refuse` (R285) -/

@[simp] theorem refuse_cur (c : Cause) (s : State) : (refuse c s).cur = s.cur := rfl
@[simp] theorem refuse_hoff (c : Cause) (s : State) : (refuse c s).hoff = s.hoff := rfl
@[simp] theorem refuse_saved (c : Cause) (s : State) : (refuse c s).saved = s.saved := rfl
@[simp] theorem refuse_crc (c : Cause) (s : State) : (refuse c s).crc = s.crc := rfl
@[simp] theorem refuse_crcout (c : Cause) (s : State) : (refuse c s).crcout = s.crcout := rfl
@[simp] theorem refuse_cnt (c : Cause) (s : State) : (refuse c s).cnt = s.cnt := rfl
@[simp] theorem refuse_maxb (c : Cause) (s : State) : (refuse c s).maxb = s.maxb := rfl
@[simp] theorem refuse_res (c : Cause) (s : State) : (refuse c s).res = s.res := rfl
@[simp] theorem refuse_dat (c : Cause) (s : State) : (refuse c s).dat = s.dat := rfl
@[simp] theorem refuse_hcsout (c : Cause) (s : State) : (refuse c s).hcsout = s.hcsout := rfl
@[simp] theorem refuse_hb (c : Cause) (s : State) : (refuse c s).hb = s.hb := rfl
@[simp] theorem refuse_hbn (c : Cause) (s : State) : (refuse c s).hbn = s.hbn := rfl
@[simp] theorem refuse_dh (c : Cause) (s : State) : (refuse c s).dh = s.dh := rfl
@[simp] theorem refuse_table (c : Cause) (s : State) : (refuse c s).table = s.table := rfl
@[simp] theorem refuse_tv (c : Cause) (s : State) : (refuse c s).tv = s.tv := rfl
@[simp] theorem refuse_ws (c : Cause) (s : State) : (refuse c s).ws = s.ws := rfl
@[simp] theorem refuse_re (c : Cause) (s : State) : (refuse c s).re = s.re := rfl
@[simp] theorem refuse_busy (c : Cause) (s : State) : (refuse c s).busy = s.busy := rfl
@[simp] theorem refuse_incomplete (c : Cause) (s : State) : (refuse c s).incomplete = s.incomplete := rfl
@[simp] theorem refuse_sigok (c : Cause) (s : State) : (refuse c s).sigok = s.sigok := rfl
@[simp] theorem refuse_short (c : Cause) (s : State) : (refuse c s).short = s.short := rfl
@[simp] theorem refuse_crcbad (c : Cause) (s : State) : (refuse c s).crcbad = s.crcbad := rfl
@[simp] theorem refuse_hcsbad (c : Cause) (s : State) : (refuse c s).hcsbad = s.hcsbad := rfl
@[simp] theorem refuse_exitCode (c : Cause) (s : State) : (refuse c s).exitCode = s.exitCode := rfl
@[simp] theorem refuse_repairEn (c : Cause) (s : State) : (refuse c s).repairEn = s.repairEn := rfl
@[simp] theorem refuse_rpt (c : Cause) (s : State) : (refuse c s).rpt = s.rpt := rfl
@[simp] theorem refuse_mem (c : Cause) (s : State) : (refuse c s).mem = s.mem := rfl
@[simp] theorem refuse_fileLen (c : Cause) (s : State) : (refuse c s).fileLen = s.fileLen := rfl
@[simp] theorem refuse_writeAccess (c : Cause) (s : State) : (refuse c s).writeAccess = s.writeAccess := rfl
@[simp] theorem refuse_params (c : Cause) (s : State) : (refuse c s).params = s.params := rfl
@[simp] theorem refuse_inputs (c : Cause) (s : State) : (refuse c s).inputs = s.inputs := rfl
@[simp] theorem refuse_answers (c : Cause) (s : State) : (refuse c s).answers = s.answers := rfl
@[simp] theorem refuse_draws (c : Cause) (s : State) : (refuse c s).draws = s.draws := rfl

/-! ### acceptance (R285) -/

@[simp] theorem accept_cur (s : State) : (accept s).cur = s.cur := rfl
@[simp] theorem accept_hoff (s : State) : (accept s).hoff = s.hoff := rfl
@[simp] theorem accept_saved (s : State) : (accept s).saved = s.saved := rfl
@[simp] theorem accept_crc (s : State) : (accept s).crc = s.crc := rfl
@[simp] theorem accept_crcout (s : State) : (accept s).crcout = s.crcout := rfl
@[simp] theorem accept_cnt (s : State) : (accept s).cnt = s.cnt := rfl
@[simp] theorem accept_maxb (s : State) : (accept s).maxb = s.maxb := rfl
@[simp] theorem accept_res (s : State) : (accept s).res = s.res := rfl
@[simp] theorem accept_dat (s : State) : (accept s).dat = s.dat := rfl
@[simp] theorem accept_hcsout (s : State) : (accept s).hcsout = s.hcsout := rfl
@[simp] theorem accept_hb (s : State) : (accept s).hb = s.hb := rfl
@[simp] theorem accept_hbn (s : State) : (accept s).hbn = s.hbn := rfl
@[simp] theorem accept_dh (s : State) : (accept s).dh = s.dh := rfl
@[simp] theorem accept_table (s : State) : (accept s).table = s.table := rfl
@[simp] theorem accept_tv (s : State) : (accept s).tv = s.tv := rfl
@[simp] theorem accept_ws (s : State) : (accept s).ws = s.ws := rfl
@[simp] theorem accept_re (s : State) : (accept s).re = s.re := rfl
@[simp] theorem accept_incomplete (s : State) : (accept s).incomplete = s.incomplete := rfl
@[simp] theorem accept_sigok (s : State) : (accept s).sigok = s.sigok := rfl
@[simp] theorem accept_short (s : State) : (accept s).short = s.short := rfl
@[simp] theorem accept_crcbad (s : State) : (accept s).crcbad = s.crcbad := rfl
@[simp] theorem accept_hcsbad (s : State) : (accept s).hcsbad = s.hcsbad := rfl
@[simp] theorem accept_exitCode (s : State) : (accept s).exitCode = s.exitCode := rfl
@[simp] theorem accept_repairEn (s : State) : (accept s).repairEn = s.repairEn := rfl
@[simp] theorem accept_rpt (s : State) : (accept s).rpt = s.rpt := rfl
@[simp] theorem accept_mem (s : State) : (accept s).mem = s.mem := rfl
@[simp] theorem accept_fileLen (s : State) : (accept s).fileLen = s.fileLen := rfl
@[simp] theorem accept_writeAccess (s : State) : (accept s).writeAccess = s.writeAccess := rfl
@[simp] theorem accept_params (s : State) : (accept s).params = s.params := rfl
@[simp] theorem accept_answers (s : State) : (accept s).answers = s.answers := rfl
@[simp] theorem accept_draws (s : State) : (accept s).draws = s.draws := rfl

/-! ### the end of an operation (R33) -/

@[simp] theorem release_cur (s : State) : (release s).cur = s.cur := rfl
@[simp] theorem release_hoff (s : State) : (release s).hoff = s.hoff := rfl
@[simp] theorem release_saved (s : State) : (release s).saved = s.saved := rfl
@[simp] theorem release_crc (s : State) : (release s).crc = s.crc := rfl
@[simp] theorem release_crcout (s : State) : (release s).crcout = s.crcout := rfl
@[simp] theorem release_cnt (s : State) : (release s).cnt = s.cnt := rfl
@[simp] theorem release_maxb (s : State) : (release s).maxb = s.maxb := rfl
@[simp] theorem release_res (s : State) : (release s).res = s.res := rfl
@[simp] theorem release_dat (s : State) : (release s).dat = s.dat := rfl
@[simp] theorem release_hcsout (s : State) : (release s).hcsout = s.hcsout := rfl
@[simp] theorem release_hb (s : State) : (release s).hb = s.hb := rfl
@[simp] theorem release_hbn (s : State) : (release s).hbn = s.hbn := rfl
@[simp] theorem release_dh (s : State) : (release s).dh = s.dh := rfl
@[simp] theorem release_table (s : State) : (release s).table = s.table := rfl
@[simp] theorem release_tv (s : State) : (release s).tv = s.tv := rfl
@[simp] theorem release_ws (s : State) : (release s).ws = s.ws := rfl
@[simp] theorem release_re (s : State) : (release s).re = s.re := rfl
@[simp] theorem release_incomplete (s : State) : (release s).incomplete = s.incomplete := rfl
@[simp] theorem release_sigok (s : State) : (release s).sigok = s.sigok := rfl
@[simp] theorem release_short (s : State) : (release s).short = s.short := rfl
@[simp] theorem release_crcbad (s : State) : (release s).crcbad = s.crcbad := rfl
@[simp] theorem release_hcsbad (s : State) : (release s).hcsbad = s.hcsbad := rfl
@[simp] theorem release_refused (s : State) : (release s).refused = s.refused := rfl
@[simp] theorem release_exitCode (s : State) : (release s).exitCode = s.exitCode := rfl
@[simp] theorem release_cause (s : State) : (release s).cause = s.cause := rfl
@[simp] theorem release_repairEn (s : State) : (release s).repairEn = s.repairEn := rfl
@[simp] theorem release_rpt (s : State) : (release s).rpt = s.rpt := rfl
@[simp] theorem release_mem (s : State) : (release s).mem = s.mem := rfl
@[simp] theorem release_fileLen (s : State) : (release s).fileLen = s.fileLen := rfl
@[simp] theorem release_writeAccess (s : State) : (release s).writeAccess = s.writeAccess := rfl
@[simp] theorem release_params (s : State) : (release s).params = s.params := rfl
@[simp] theorem release_inputs (s : State) : (release s).inputs = s.inputs := rfl
@[simp] theorem release_answers (s : State) : (release s).answers = s.answers := rfl
@[simp] theorem release_draws (s : State) : (release s).draws = s.draws := rfl

/-! ### loading the header buffer (R216) -/

@[simp] theorem loadHb_cur (B : List Byte) (s : State) : (loadHb B s).cur = s.cur := rfl
@[simp] theorem loadHb_hoff (B : List Byte) (s : State) : (loadHb B s).hoff = s.hoff := rfl
@[simp] theorem loadHb_saved (B : List Byte) (s : State) : (loadHb B s).saved = s.saved := rfl
@[simp] theorem loadHb_crc (B : List Byte) (s : State) : (loadHb B s).crc = s.crc := rfl
@[simp] theorem loadHb_crcout (B : List Byte) (s : State) : (loadHb B s).crcout = s.crcout := rfl
@[simp] theorem loadHb_cnt (B : List Byte) (s : State) : (loadHb B s).cnt = s.cnt := rfl
@[simp] theorem loadHb_maxb (B : List Byte) (s : State) : (loadHb B s).maxb = s.maxb := rfl
@[simp] theorem loadHb_res (B : List Byte) (s : State) : (loadHb B s).res = s.res := rfl
@[simp] theorem loadHb_dat (B : List Byte) (s : State) : (loadHb B s).dat = s.dat := rfl
@[simp] theorem loadHb_hcsout (B : List Byte) (s : State) : (loadHb B s).hcsout = s.hcsout := rfl
@[simp] theorem loadHb_dh (B : List Byte) (s : State) : (loadHb B s).dh = s.dh := rfl
@[simp] theorem loadHb_table (B : List Byte) (s : State) : (loadHb B s).table = s.table := rfl
@[simp] theorem loadHb_tv (B : List Byte) (s : State) : (loadHb B s).tv = s.tv := rfl
@[simp] theorem loadHb_ws (B : List Byte) (s : State) : (loadHb B s).ws = s.ws := rfl
@[simp] theorem loadHb_re (B : List Byte) (s : State) : (loadHb B s).re = s.re := rfl
@[simp] theorem loadHb_busy (B : List Byte) (s : State) : (loadHb B s).busy = s.busy := rfl
@[simp] theorem loadHb_incomplete (B : List Byte) (s : State) : (loadHb B s).incomplete = s.incomplete := rfl
@[simp] theorem loadHb_sigok (B : List Byte) (s : State) : (loadHb B s).sigok = s.sigok := rfl
@[simp] theorem loadHb_short (B : List Byte) (s : State) : (loadHb B s).short = s.short := rfl
@[simp] theorem loadHb_crcbad (B : List Byte) (s : State) : (loadHb B s).crcbad = s.crcbad := rfl
@[simp] theorem loadHb_hcsbad (B : List Byte) (s : State) : (loadHb B s).hcsbad = s.hcsbad := rfl
@[simp] theorem loadHb_refused (B : List Byte) (s : State) : (loadHb B s).refused = s.refused := rfl
@[simp] theorem loadHb_exitCode (B : List Byte) (s : State) : (loadHb B s).exitCode = s.exitCode := rfl
@[simp] theorem loadHb_cause (B : List Byte) (s : State) : (loadHb B s).cause = s.cause := rfl
@[simp] theorem loadHb_repairEn (B : List Byte) (s : State) : (loadHb B s).repairEn = s.repairEn := rfl
@[simp] theorem loadHb_rpt (B : List Byte) (s : State) : (loadHb B s).rpt = s.rpt := rfl
@[simp] theorem loadHb_mem (B : List Byte) (s : State) : (loadHb B s).mem = s.mem := rfl
@[simp] theorem loadHb_fileLen (B : List Byte) (s : State) : (loadHb B s).fileLen = s.fileLen := rfl
@[simp] theorem loadHb_writeAccess (B : List Byte) (s : State) : (loadHb B s).writeAccess = s.writeAccess := rfl
@[simp] theorem loadHb_params (B : List Byte) (s : State) : (loadHb B s).params = s.params := rfl
@[simp] theorem loadHb_inputs (B : List Byte) (s : State) : (loadHb B s).inputs = s.inputs := rfl
@[simp] theorem loadHb_answers (B : List Byte) (s : State) : (loadHb B s).answers = s.answers := rfl

/-! ### patching the header buffer (R261) -/

@[simp] theorem patchHb_cur (B : List Byte) (s : State) : (patchHb B s).cur = s.cur := rfl
@[simp] theorem patchHb_hoff (B : List Byte) (s : State) : (patchHb B s).hoff = s.hoff := rfl
@[simp] theorem patchHb_saved (B : List Byte) (s : State) : (patchHb B s).saved = s.saved := rfl
@[simp] theorem patchHb_crc (B : List Byte) (s : State) : (patchHb B s).crc = s.crc := rfl
@[simp] theorem patchHb_crcout (B : List Byte) (s : State) : (patchHb B s).crcout = s.crcout := rfl
@[simp] theorem patchHb_cnt (B : List Byte) (s : State) : (patchHb B s).cnt = s.cnt := rfl
@[simp] theorem patchHb_maxb (B : List Byte) (s : State) : (patchHb B s).maxb = s.maxb := rfl
@[simp] theorem patchHb_res (B : List Byte) (s : State) : (patchHb B s).res = s.res := rfl
@[simp] theorem patchHb_dat (B : List Byte) (s : State) : (patchHb B s).dat = s.dat := rfl
@[simp] theorem patchHb_hcsout (B : List Byte) (s : State) : (patchHb B s).hcsout = s.hcsout := rfl
@[simp] theorem patchHb_hbn (B : List Byte) (s : State) : (patchHb B s).hbn = s.hbn := rfl
@[simp] theorem patchHb_dh (B : List Byte) (s : State) : (patchHb B s).dh = s.dh := rfl
@[simp] theorem patchHb_table (B : List Byte) (s : State) : (patchHb B s).table = s.table := rfl
@[simp] theorem patchHb_tv (B : List Byte) (s : State) : (patchHb B s).tv = s.tv := rfl
@[simp] theorem patchHb_ws (B : List Byte) (s : State) : (patchHb B s).ws = s.ws := rfl
@[simp] theorem patchHb_re (B : List Byte) (s : State) : (patchHb B s).re = s.re := rfl
@[simp] theorem patchHb_busy (B : List Byte) (s : State) : (patchHb B s).busy = s.busy := rfl
@[simp] theorem patchHb_incomplete (B : List Byte) (s : State) : (patchHb B s).incomplete = s.incomplete := rfl
@[simp] theorem patchHb_sigok (B : List Byte) (s : State) : (patchHb B s).sigok = s.sigok := rfl
@[simp] theorem patchHb_short (B : List Byte) (s : State) : (patchHb B s).short = s.short := rfl
@[simp] theorem patchHb_crcbad (B : List Byte) (s : State) : (patchHb B s).crcbad = s.crcbad := rfl
@[simp] theorem patchHb_hcsbad (B : List Byte) (s : State) : (patchHb B s).hcsbad = s.hcsbad := rfl
@[simp] theorem patchHb_refused (B : List Byte) (s : State) : (patchHb B s).refused = s.refused := rfl
@[simp] theorem patchHb_exitCode (B : List Byte) (s : State) : (patchHb B s).exitCode = s.exitCode := rfl
@[simp] theorem patchHb_cause (B : List Byte) (s : State) : (patchHb B s).cause = s.cause := rfl
@[simp] theorem patchHb_repairEn (B : List Byte) (s : State) : (patchHb B s).repairEn = s.repairEn := rfl
@[simp] theorem patchHb_rpt (B : List Byte) (s : State) : (patchHb B s).rpt = s.rpt := rfl
@[simp] theorem patchHb_mem (B : List Byte) (s : State) : (patchHb B s).mem = s.mem := rfl
@[simp] theorem patchHb_fileLen (B : List Byte) (s : State) : (patchHb B s).fileLen = s.fileLen := rfl
@[simp] theorem patchHb_writeAccess (B : List Byte) (s : State) : (patchHb B s).writeAccess = s.writeAccess := rfl
@[simp] theorem patchHb_params (B : List Byte) (s : State) : (patchHb B s).params = s.params := rfl
@[simp] theorem patchHb_inputs (B : List Byte) (s : State) : (patchHb B s).inputs = s.inputs := rfl
@[simp] theorem patchHb_answers (B : List Byte) (s : State) : (patchHb B s).answers = s.answers := rfl
@[simp] theorem patchHb_draws (B : List Byte) (s : State) : (patchHb B s).draws = s.draws := rfl

/-! ### S1 (R215) -/

@[simp] theorem recordOffset_cur (s : State) : (recordOffset s).cur = s.cur := rfl
@[simp] theorem recordOffset_saved (s : State) : (recordOffset s).saved = s.saved := rfl
@[simp] theorem recordOffset_crc (s : State) : (recordOffset s).crc = s.crc := rfl
@[simp] theorem recordOffset_crcout (s : State) : (recordOffset s).crcout = s.crcout := rfl
@[simp] theorem recordOffset_cnt (s : State) : (recordOffset s).cnt = s.cnt := rfl
@[simp] theorem recordOffset_maxb (s : State) : (recordOffset s).maxb = s.maxb := rfl
@[simp] theorem recordOffset_res (s : State) : (recordOffset s).res = s.res := rfl
@[simp] theorem recordOffset_dat (s : State) : (recordOffset s).dat = s.dat := rfl
@[simp] theorem recordOffset_hcsout (s : State) : (recordOffset s).hcsout = s.hcsout := rfl
@[simp] theorem recordOffset_hb (s : State) : (recordOffset s).hb = s.hb := rfl
@[simp] theorem recordOffset_hbn (s : State) : (recordOffset s).hbn = s.hbn := rfl
@[simp] theorem recordOffset_dh (s : State) : (recordOffset s).dh = s.dh := rfl
@[simp] theorem recordOffset_table (s : State) : (recordOffset s).table = s.table := rfl
@[simp] theorem recordOffset_tv (s : State) : (recordOffset s).tv = s.tv := rfl
@[simp] theorem recordOffset_ws (s : State) : (recordOffset s).ws = s.ws := rfl
@[simp] theorem recordOffset_re (s : State) : (recordOffset s).re = s.re := rfl
@[simp] theorem recordOffset_busy (s : State) : (recordOffset s).busy = s.busy := rfl
@[simp] theorem recordOffset_incomplete (s : State) : (recordOffset s).incomplete = s.incomplete := rfl
@[simp] theorem recordOffset_sigok (s : State) : (recordOffset s).sigok = s.sigok := rfl
@[simp] theorem recordOffset_short (s : State) : (recordOffset s).short = s.short := rfl
@[simp] theorem recordOffset_crcbad (s : State) : (recordOffset s).crcbad = s.crcbad := rfl
@[simp] theorem recordOffset_hcsbad (s : State) : (recordOffset s).hcsbad = s.hcsbad := rfl
@[simp] theorem recordOffset_refused (s : State) : (recordOffset s).refused = s.refused := rfl
@[simp] theorem recordOffset_exitCode (s : State) : (recordOffset s).exitCode = s.exitCode := rfl
@[simp] theorem recordOffset_cause (s : State) : (recordOffset s).cause = s.cause := rfl
@[simp] theorem recordOffset_repairEn (s : State) : (recordOffset s).repairEn = s.repairEn := rfl
@[simp] theorem recordOffset_rpt (s : State) : (recordOffset s).rpt = s.rpt := rfl
@[simp] theorem recordOffset_mem (s : State) : (recordOffset s).mem = s.mem := rfl
@[simp] theorem recordOffset_fileLen (s : State) : (recordOffset s).fileLen = s.fileLen := rfl
@[simp] theorem recordOffset_writeAccess (s : State) : (recordOffset s).writeAccess = s.writeAccess := rfl
@[simp] theorem recordOffset_params (s : State) : (recordOffset s).params = s.params := rfl
@[simp] theorem recordOffset_inputs (s : State) : (recordOffset s).inputs = s.inputs := rfl
@[simp] theorem recordOffset_answers (s : State) : (recordOffset s).answers = s.answers := rfl
@[simp] theorem recordOffset_draws (s : State) : (recordOffset s).draws = s.draws := rfl

/-! ### the header checksum (R163) -/

@[simp] theorem hcsOverHb_cur (s : State) : (hcsOverHb s).cur = s.cur := rfl
@[simp] theorem hcsOverHb_hoff (s : State) : (hcsOverHb s).hoff = s.hoff := rfl
@[simp] theorem hcsOverHb_saved (s : State) : (hcsOverHb s).saved = s.saved := rfl
@[simp] theorem hcsOverHb_crc (s : State) : (hcsOverHb s).crc = s.crc := rfl
@[simp] theorem hcsOverHb_crcout (s : State) : (hcsOverHb s).crcout = s.crcout := rfl
@[simp] theorem hcsOverHb_cnt (s : State) : (hcsOverHb s).cnt = s.cnt := rfl
@[simp] theorem hcsOverHb_maxb (s : State) : (hcsOverHb s).maxb = s.maxb := rfl
@[simp] theorem hcsOverHb_hb (s : State) : (hcsOverHb s).hb = s.hb := rfl
@[simp] theorem hcsOverHb_hbn (s : State) : (hcsOverHb s).hbn = s.hbn := rfl
@[simp] theorem hcsOverHb_dh (s : State) : (hcsOverHb s).dh = s.dh := rfl
@[simp] theorem hcsOverHb_table (s : State) : (hcsOverHb s).table = s.table := rfl
@[simp] theorem hcsOverHb_tv (s : State) : (hcsOverHb s).tv = s.tv := rfl
@[simp] theorem hcsOverHb_ws (s : State) : (hcsOverHb s).ws = s.ws := rfl
@[simp] theorem hcsOverHb_re (s : State) : (hcsOverHb s).re = s.re := rfl
@[simp] theorem hcsOverHb_busy (s : State) : (hcsOverHb s).busy = s.busy := rfl
@[simp] theorem hcsOverHb_incomplete (s : State) : (hcsOverHb s).incomplete = s.incomplete := rfl
@[simp] theorem hcsOverHb_sigok (s : State) : (hcsOverHb s).sigok = s.sigok := rfl
@[simp] theorem hcsOverHb_short (s : State) : (hcsOverHb s).short = s.short := rfl
@[simp] theorem hcsOverHb_crcbad (s : State) : (hcsOverHb s).crcbad = s.crcbad := rfl
@[simp] theorem hcsOverHb_hcsbad (s : State) : (hcsOverHb s).hcsbad = s.hcsbad := rfl
@[simp] theorem hcsOverHb_refused (s : State) : (hcsOverHb s).refused = s.refused := rfl
@[simp] theorem hcsOverHb_exitCode (s : State) : (hcsOverHb s).exitCode = s.exitCode := rfl
@[simp] theorem hcsOverHb_cause (s : State) : (hcsOverHb s).cause = s.cause := rfl
@[simp] theorem hcsOverHb_repairEn (s : State) : (hcsOverHb s).repairEn = s.repairEn := rfl
@[simp] theorem hcsOverHb_rpt (s : State) : (hcsOverHb s).rpt = s.rpt := rfl
@[simp] theorem hcsOverHb_mem (s : State) : (hcsOverHb s).mem = s.mem := rfl
@[simp] theorem hcsOverHb_fileLen (s : State) : (hcsOverHb s).fileLen = s.fileLen := rfl
@[simp] theorem hcsOverHb_writeAccess (s : State) : (hcsOverHb s).writeAccess = s.writeAccess := rfl
@[simp] theorem hcsOverHb_params (s : State) : (hcsOverHb s).params = s.params := rfl
@[simp] theorem hcsOverHb_inputs (s : State) : (hcsOverHb s).inputs = s.inputs := rfl
@[simp] theorem hcsOverHb_answers (s : State) : (hcsOverHb s).answers = s.answers := rfl
@[simp] theorem hcsOverHb_draws (s : State) : (hcsOverHb s).draws = s.draws := rfl

/-! ### a CRC run (R135, R136) -/

@[simp] theorem crcRun_hoff (s : State) : (crcRun s).hoff = s.hoff := rfl
@[simp] theorem crcRun_saved (s : State) : (crcRun s).saved = s.saved := rfl
@[simp] theorem crcRun_maxb (s : State) : (crcRun s).maxb = s.maxb := rfl
@[simp] theorem crcRun_res (s : State) : (crcRun s).res = s.res := rfl
@[simp] theorem crcRun_dat (s : State) : (crcRun s).dat = s.dat := rfl
@[simp] theorem crcRun_hcsout (s : State) : (crcRun s).hcsout = s.hcsout := rfl
@[simp] theorem crcRun_hb (s : State) : (crcRun s).hb = s.hb := rfl
@[simp] theorem crcRun_hbn (s : State) : (crcRun s).hbn = s.hbn := rfl
@[simp] theorem crcRun_dh (s : State) : (crcRun s).dh = s.dh := rfl
@[simp] theorem crcRun_table (s : State) : (crcRun s).table = s.table := rfl
@[simp] theorem crcRun_tv (s : State) : (crcRun s).tv = s.tv := rfl
@[simp] theorem crcRun_ws (s : State) : (crcRun s).ws = s.ws := rfl
@[simp] theorem crcRun_re (s : State) : (crcRun s).re = s.re := rfl
@[simp] theorem crcRun_busy (s : State) : (crcRun s).busy = s.busy := rfl
@[simp] theorem crcRun_incomplete (s : State) : (crcRun s).incomplete = s.incomplete := rfl
@[simp] theorem crcRun_sigok (s : State) : (crcRun s).sigok = s.sigok := rfl
@[simp] theorem crcRun_short (s : State) : (crcRun s).short = s.short := rfl
@[simp] theorem crcRun_crcbad (s : State) : (crcRun s).crcbad = s.crcbad := rfl
@[simp] theorem crcRun_hcsbad (s : State) : (crcRun s).hcsbad = s.hcsbad := rfl
@[simp] theorem crcRun_refused (s : State) : (crcRun s).refused = s.refused := rfl
@[simp] theorem crcRun_exitCode (s : State) : (crcRun s).exitCode = s.exitCode := rfl
@[simp] theorem crcRun_cause (s : State) : (crcRun s).cause = s.cause := rfl
@[simp] theorem crcRun_repairEn (s : State) : (crcRun s).repairEn = s.repairEn := rfl
@[simp] theorem crcRun_rpt (s : State) : (crcRun s).rpt = s.rpt := rfl
@[simp] theorem crcRun_mem (s : State) : (crcRun s).mem = s.mem := rfl
@[simp] theorem crcRun_fileLen (s : State) : (crcRun s).fileLen = s.fileLen := rfl
@[simp] theorem crcRun_writeAccess (s : State) : (crcRun s).writeAccess = s.writeAccess := rfl
@[simp] theorem crcRun_params (s : State) : (crcRun s).params = s.params := rfl
@[simp] theorem crcRun_inputs (s : State) : (crcRun s).inputs = s.inputs := rfl
@[simp] theorem crcRun_answers (s : State) : (crcRun s).answers = s.answers := rfl
@[simp] theorem crcRun_draws (s : State) : (crcRun s).draws = s.draws := rfl

/-! ### S6 (R220) -/

@[simp] theorem checkPayload_hoff (s : State) : (checkPayload s).hoff = s.hoff := rfl
@[simp] theorem checkPayload_saved (s : State) : (checkPayload s).saved = s.saved := rfl
@[simp] theorem checkPayload_res (s : State) : (checkPayload s).res = s.res := rfl
@[simp] theorem checkPayload_dat (s : State) : (checkPayload s).dat = s.dat := rfl
@[simp] theorem checkPayload_hcsout (s : State) : (checkPayload s).hcsout = s.hcsout := rfl
@[simp] theorem checkPayload_hb (s : State) : (checkPayload s).hb = s.hb := rfl
@[simp] theorem checkPayload_hbn (s : State) : (checkPayload s).hbn = s.hbn := rfl
@[simp] theorem checkPayload_dh (s : State) : (checkPayload s).dh = s.dh := rfl
@[simp] theorem checkPayload_table (s : State) : (checkPayload s).table = s.table := rfl
@[simp] theorem checkPayload_tv (s : State) : (checkPayload s).tv = s.tv := rfl
@[simp] theorem checkPayload_ws (s : State) : (checkPayload s).ws = s.ws := rfl
@[simp] theorem checkPayload_re (s : State) : (checkPayload s).re = s.re := rfl
@[simp] theorem checkPayload_busy (s : State) : (checkPayload s).busy = s.busy := rfl
@[simp] theorem checkPayload_incomplete (s : State) : (checkPayload s).incomplete = s.incomplete := rfl
@[simp] theorem checkPayload_sigok (s : State) : (checkPayload s).sigok = s.sigok := rfl
@[simp] theorem checkPayload_crcbad (s : State) : (checkPayload s).crcbad = s.crcbad := rfl
@[simp] theorem checkPayload_hcsbad (s : State) : (checkPayload s).hcsbad = s.hcsbad := rfl
@[simp] theorem checkPayload_refused (s : State) : (checkPayload s).refused = s.refused := rfl
@[simp] theorem checkPayload_exitCode (s : State) : (checkPayload s).exitCode = s.exitCode := rfl
@[simp] theorem checkPayload_cause (s : State) : (checkPayload s).cause = s.cause := rfl
@[simp] theorem checkPayload_repairEn (s : State) : (checkPayload s).repairEn = s.repairEn := rfl
@[simp] theorem checkPayload_rpt (s : State) : (checkPayload s).rpt = s.rpt := rfl
@[simp] theorem checkPayload_mem (s : State) : (checkPayload s).mem = s.mem := rfl
@[simp] theorem checkPayload_fileLen (s : State) : (checkPayload s).fileLen = s.fileLen := rfl
@[simp] theorem checkPayload_writeAccess (s : State) : (checkPayload s).writeAccess = s.writeAccess := rfl
@[simp] theorem checkPayload_params (s : State) : (checkPayload s).params = s.params := rfl
@[simp] theorem checkPayload_inputs (s : State) : (checkPayload s).inputs = s.inputs := rfl
@[simp] theorem checkPayload_answers (s : State) : (checkPayload s).answers = s.answers := rfl
@[simp] theorem checkPayload_draws (s : State) : (checkPayload s).draws = s.draws := rfl

/-! ### S7 (R221) -/

@[simp] theorem compareCrc_cur (s : State) : (compareCrc s).cur = s.cur := rfl
@[simp] theorem compareCrc_hoff (s : State) : (compareCrc s).hoff = s.hoff := rfl
@[simp] theorem compareCrc_saved (s : State) : (compareCrc s).saved = s.saved := rfl
@[simp] theorem compareCrc_crc (s : State) : (compareCrc s).crc = s.crc := rfl
@[simp] theorem compareCrc_crcout (s : State) : (compareCrc s).crcout = s.crcout := rfl
@[simp] theorem compareCrc_cnt (s : State) : (compareCrc s).cnt = s.cnt := rfl
@[simp] theorem compareCrc_maxb (s : State) : (compareCrc s).maxb = s.maxb := rfl
@[simp] theorem compareCrc_res (s : State) : (compareCrc s).res = s.res := rfl
@[simp] theorem compareCrc_dat (s : State) : (compareCrc s).dat = s.dat := rfl
@[simp] theorem compareCrc_hcsout (s : State) : (compareCrc s).hcsout = s.hcsout := rfl
@[simp] theorem compareCrc_hb (s : State) : (compareCrc s).hb = s.hb := rfl
@[simp] theorem compareCrc_hbn (s : State) : (compareCrc s).hbn = s.hbn := rfl
@[simp] theorem compareCrc_dh (s : State) : (compareCrc s).dh = s.dh := rfl
@[simp] theorem compareCrc_table (s : State) : (compareCrc s).table = s.table := rfl
@[simp] theorem compareCrc_tv (s : State) : (compareCrc s).tv = s.tv := rfl
@[simp] theorem compareCrc_ws (s : State) : (compareCrc s).ws = s.ws := rfl
@[simp] theorem compareCrc_re (s : State) : (compareCrc s).re = s.re := rfl
@[simp] theorem compareCrc_busy (s : State) : (compareCrc s).busy = s.busy := rfl
@[simp] theorem compareCrc_incomplete (s : State) : (compareCrc s).incomplete = s.incomplete := rfl
@[simp] theorem compareCrc_sigok (s : State) : (compareCrc s).sigok = s.sigok := rfl
@[simp] theorem compareCrc_short (s : State) : (compareCrc s).short = s.short := rfl
@[simp] theorem compareCrc_hcsbad (s : State) : (compareCrc s).hcsbad = s.hcsbad := rfl
@[simp] theorem compareCrc_refused (s : State) : (compareCrc s).refused = s.refused := rfl
@[simp] theorem compareCrc_exitCode (s : State) : (compareCrc s).exitCode = s.exitCode := rfl
@[simp] theorem compareCrc_cause (s : State) : (compareCrc s).cause = s.cause := rfl
@[simp] theorem compareCrc_repairEn (s : State) : (compareCrc s).repairEn = s.repairEn := rfl
@[simp] theorem compareCrc_rpt (s : State) : (compareCrc s).rpt = s.rpt := rfl
@[simp] theorem compareCrc_mem (s : State) : (compareCrc s).mem = s.mem := rfl
@[simp] theorem compareCrc_fileLen (s : State) : (compareCrc s).fileLen = s.fileLen := rfl
@[simp] theorem compareCrc_writeAccess (s : State) : (compareCrc s).writeAccess = s.writeAccess := rfl
@[simp] theorem compareCrc_params (s : State) : (compareCrc s).params = s.params := rfl
@[simp] theorem compareCrc_inputs (s : State) : (compareCrc s).inputs = s.inputs := rfl
@[simp] theorem compareCrc_answers (s : State) : (compareCrc s).answers = s.answers := rfl
@[simp] theorem compareCrc_draws (s : State) : (compareCrc s).draws = s.draws := rfl

/-! ### S4 and S8 (R222) -/

@[simp] theorem reportBlock_cur (s : State) : (reportBlock s).cur = s.cur := rfl
@[simp] theorem reportBlock_hoff (s : State) : (reportBlock s).hoff = s.hoff := rfl
@[simp] theorem reportBlock_saved (s : State) : (reportBlock s).saved = s.saved := rfl
@[simp] theorem reportBlock_crc (s : State) : (reportBlock s).crc = s.crc := rfl
@[simp] theorem reportBlock_crcout (s : State) : (reportBlock s).crcout = s.crcout := rfl
@[simp] theorem reportBlock_cnt (s : State) : (reportBlock s).cnt = s.cnt := rfl
@[simp] theorem reportBlock_maxb (s : State) : (reportBlock s).maxb = s.maxb := rfl
@[simp] theorem reportBlock_res (s : State) : (reportBlock s).res = s.res := rfl
@[simp] theorem reportBlock_dat (s : State) : (reportBlock s).dat = s.dat := rfl
@[simp] theorem reportBlock_hcsout (s : State) : (reportBlock s).hcsout = s.hcsout := rfl
@[simp] theorem reportBlock_hb (s : State) : (reportBlock s).hb = s.hb := rfl
@[simp] theorem reportBlock_hbn (s : State) : (reportBlock s).hbn = s.hbn := rfl
@[simp] theorem reportBlock_dh (s : State) : (reportBlock s).dh = s.dh := rfl
@[simp] theorem reportBlock_table (s : State) : (reportBlock s).table = s.table := rfl
@[simp] theorem reportBlock_tv (s : State) : (reportBlock s).tv = s.tv := rfl
@[simp] theorem reportBlock_ws (s : State) : (reportBlock s).ws = s.ws := rfl
@[simp] theorem reportBlock_re (s : State) : (reportBlock s).re = s.re := rfl
@[simp] theorem reportBlock_busy (s : State) : (reportBlock s).busy = s.busy := rfl
@[simp] theorem reportBlock_incomplete (s : State) : (reportBlock s).incomplete = s.incomplete := rfl
@[simp] theorem reportBlock_sigok (s : State) : (reportBlock s).sigok = s.sigok := rfl
@[simp] theorem reportBlock_short (s : State) : (reportBlock s).short = s.short := rfl
@[simp] theorem reportBlock_crcbad (s : State) : (reportBlock s).crcbad = s.crcbad := rfl
@[simp] theorem reportBlock_hcsbad (s : State) : (reportBlock s).hcsbad = s.hcsbad := rfl
@[simp] theorem reportBlock_refused (s : State) : (reportBlock s).refused = s.refused := rfl
@[simp] theorem reportBlock_exitCode (s : State) : (reportBlock s).exitCode = s.exitCode := rfl
@[simp] theorem reportBlock_cause (s : State) : (reportBlock s).cause = s.cause := rfl
@[simp] theorem reportBlock_repairEn (s : State) : (reportBlock s).repairEn = s.repairEn := rfl
@[simp] theorem reportBlock_mem (s : State) : (reportBlock s).mem = s.mem := rfl
@[simp] theorem reportBlock_fileLen (s : State) : (reportBlock s).fileLen = s.fileLen := rfl
@[simp] theorem reportBlock_writeAccess (s : State) : (reportBlock s).writeAccess = s.writeAccess := rfl
@[simp] theorem reportBlock_params (s : State) : (reportBlock s).params = s.params := rfl
@[simp] theorem reportBlock_inputs (s : State) : (reportBlock s).inputs = s.inputs := rfl
@[simp] theorem reportBlock_answers (s : State) : (reportBlock s).answers = s.answers := rfl
@[simp] theorem reportBlock_draws (s : State) : (reportBlock s).draws = s.draws := rfl

/-! ### the corrected fields (R261) -/

@[simp] theorem correctFields_cur (s : State) : (correctFields s).cur = s.cur := rfl
@[simp] theorem correctFields_hoff (s : State) : (correctFields s).hoff = s.hoff := rfl
@[simp] theorem correctFields_saved (s : State) : (correctFields s).saved = s.saved := rfl
@[simp] theorem correctFields_crc (s : State) : (correctFields s).crc = s.crc := rfl
@[simp] theorem correctFields_crcout (s : State) : (correctFields s).crcout = s.crcout := rfl
@[simp] theorem correctFields_cnt (s : State) : (correctFields s).cnt = s.cnt := rfl
@[simp] theorem correctFields_maxb (s : State) : (correctFields s).maxb = s.maxb := rfl
@[simp] theorem correctFields_res (s : State) : (correctFields s).res = s.res := rfl
@[simp] theorem correctFields_dat (s : State) : (correctFields s).dat = s.dat := rfl
@[simp] theorem correctFields_hcsout (s : State) : (correctFields s).hcsout = s.hcsout := rfl
@[simp] theorem correctFields_hbn (s : State) : (correctFields s).hbn = s.hbn := rfl
@[simp] theorem correctFields_table (s : State) : (correctFields s).table = s.table := rfl
@[simp] theorem correctFields_tv (s : State) : (correctFields s).tv = s.tv := rfl
@[simp] theorem correctFields_ws (s : State) : (correctFields s).ws = s.ws := rfl
@[simp] theorem correctFields_re (s : State) : (correctFields s).re = s.re := rfl
@[simp] theorem correctFields_busy (s : State) : (correctFields s).busy = s.busy := rfl
@[simp] theorem correctFields_incomplete (s : State) : (correctFields s).incomplete = s.incomplete := rfl
@[simp] theorem correctFields_sigok (s : State) : (correctFields s).sigok = s.sigok := rfl
@[simp] theorem correctFields_short (s : State) : (correctFields s).short = s.short := rfl
@[simp] theorem correctFields_crcbad (s : State) : (correctFields s).crcbad = s.crcbad := rfl
@[simp] theorem correctFields_hcsbad (s : State) : (correctFields s).hcsbad = s.hcsbad := rfl
@[simp] theorem correctFields_refused (s : State) : (correctFields s).refused = s.refused := rfl
@[simp] theorem correctFields_exitCode (s : State) : (correctFields s).exitCode = s.exitCode := rfl
@[simp] theorem correctFields_cause (s : State) : (correctFields s).cause = s.cause := rfl
@[simp] theorem correctFields_repairEn (s : State) : (correctFields s).repairEn = s.repairEn := rfl
@[simp] theorem correctFields_rpt (s : State) : (correctFields s).rpt = s.rpt := rfl
@[simp] theorem correctFields_mem (s : State) : (correctFields s).mem = s.mem := rfl
@[simp] theorem correctFields_fileLen (s : State) : (correctFields s).fileLen = s.fileLen := rfl
@[simp] theorem correctFields_writeAccess (s : State) : (correctFields s).writeAccess = s.writeAccess := rfl
@[simp] theorem correctFields_params (s : State) : (correctFields s).params = s.params := rfl
@[simp] theorem correctFields_inputs (s : State) : (correctFields s).inputs = s.inputs := rfl
@[simp] theorem correctFields_answers (s : State) : (correctFields s).answers = s.answers := rfl
@[simp] theorem correctFields_draws (s : State) : (correctFields s).draws = s.draws := rfl

/-! ### the recomputed checksum (R261) -/

@[simp] theorem recomputeChecksum_cur (s : State) : (recomputeChecksum s).cur = s.cur := rfl
@[simp] theorem recomputeChecksum_hoff (s : State) : (recomputeChecksum s).hoff = s.hoff := rfl
@[simp] theorem recomputeChecksum_saved (s : State) : (recomputeChecksum s).saved = s.saved := rfl
@[simp] theorem recomputeChecksum_crc (s : State) : (recomputeChecksum s).crc = s.crc := rfl
@[simp] theorem recomputeChecksum_crcout (s : State) : (recomputeChecksum s).crcout = s.crcout := rfl
@[simp] theorem recomputeChecksum_cnt (s : State) : (recomputeChecksum s).cnt = s.cnt := rfl
@[simp] theorem recomputeChecksum_maxb (s : State) : (recomputeChecksum s).maxb = s.maxb := rfl
@[simp] theorem recomputeChecksum_hbn (s : State) : (recomputeChecksum s).hbn = s.hbn := rfl
@[simp] theorem recomputeChecksum_table (s : State) : (recomputeChecksum s).table = s.table := rfl
@[simp] theorem recomputeChecksum_tv (s : State) : (recomputeChecksum s).tv = s.tv := rfl
@[simp] theorem recomputeChecksum_ws (s : State) : (recomputeChecksum s).ws = s.ws := rfl
@[simp] theorem recomputeChecksum_re (s : State) : (recomputeChecksum s).re = s.re := rfl
@[simp] theorem recomputeChecksum_busy (s : State) : (recomputeChecksum s).busy = s.busy := rfl
@[simp] theorem recomputeChecksum_incomplete (s : State) : (recomputeChecksum s).incomplete = s.incomplete := rfl
@[simp] theorem recomputeChecksum_sigok (s : State) : (recomputeChecksum s).sigok = s.sigok := rfl
@[simp] theorem recomputeChecksum_short (s : State) : (recomputeChecksum s).short = s.short := rfl
@[simp] theorem recomputeChecksum_crcbad (s : State) : (recomputeChecksum s).crcbad = s.crcbad := rfl
@[simp] theorem recomputeChecksum_hcsbad (s : State) : (recomputeChecksum s).hcsbad = s.hcsbad := rfl
@[simp] theorem recomputeChecksum_refused (s : State) : (recomputeChecksum s).refused = s.refused := rfl
@[simp] theorem recomputeChecksum_exitCode (s : State) : (recomputeChecksum s).exitCode = s.exitCode := rfl
@[simp] theorem recomputeChecksum_cause (s : State) : (recomputeChecksum s).cause = s.cause := rfl
@[simp] theorem recomputeChecksum_repairEn (s : State) : (recomputeChecksum s).repairEn = s.repairEn := rfl
@[simp] theorem recomputeChecksum_rpt (s : State) : (recomputeChecksum s).rpt = s.rpt := rfl
@[simp] theorem recomputeChecksum_mem (s : State) : (recomputeChecksum s).mem = s.mem := rfl
@[simp] theorem recomputeChecksum_fileLen (s : State) : (recomputeChecksum s).fileLen = s.fileLen := rfl
@[simp] theorem recomputeChecksum_writeAccess (s : State) : (recomputeChecksum s).writeAccess = s.writeAccess := rfl
@[simp] theorem recomputeChecksum_params (s : State) : (recomputeChecksum s).params = s.params := rfl
@[simp] theorem recomputeChecksum_inputs (s : State) : (recomputeChecksum s).inputs = s.inputs := rfl
@[simp] theorem recomputeChecksum_answers (s : State) : (recomputeChecksum s).answers = s.answers := rfl
@[simp] theorem recomputeChecksum_draws (s : State) : (recomputeChecksum s).draws = s.draws := rfl

/-! ### reset (R321, R322) -/

@[simp] theorem resetCore_cur (s : State) : (resetCore s).cur = State.reset.cur := rfl
@[simp] theorem resetCore_hoff (s : State) : (resetCore s).hoff = State.reset.hoff := rfl
@[simp] theorem resetCore_saved (s : State) : (resetCore s).saved = State.reset.saved := rfl
@[simp] theorem resetCore_crc (s : State) : (resetCore s).crc = State.reset.crc := rfl
@[simp] theorem resetCore_crcout (s : State) : (resetCore s).crcout = State.reset.crcout := rfl
@[simp] theorem resetCore_cnt (s : State) : (resetCore s).cnt = State.reset.cnt := rfl
@[simp] theorem resetCore_maxb (s : State) : (resetCore s).maxb = State.reset.maxb := rfl
@[simp] theorem resetCore_res (s : State) : (resetCore s).res = State.reset.res := rfl
@[simp] theorem resetCore_dat (s : State) : (resetCore s).dat = State.reset.dat := rfl
@[simp] theorem resetCore_hcsout (s : State) : (resetCore s).hcsout = State.reset.hcsout := rfl
@[simp] theorem resetCore_hb (s : State) : (resetCore s).hb = State.reset.hb := rfl
@[simp] theorem resetCore_hbn (s : State) : (resetCore s).hbn = State.reset.hbn := rfl
@[simp] theorem resetCore_dh (s : State) : (resetCore s).dh = State.reset.dh := rfl
@[simp] theorem resetCore_table (s : State) : (resetCore s).table = if s.params.tableHardwired then builtTable else State.reset.table := rfl
@[simp] theorem resetCore_tv (s : State) : (resetCore s).tv = s.params.tableHardwired := rfl
@[simp] theorem resetCore_ws (s : State) : (resetCore s).ws = State.reset.ws := rfl
@[simp] theorem resetCore_re (s : State) : (resetCore s).re = State.reset.re := rfl
@[simp] theorem resetCore_busy (s : State) : (resetCore s).busy = State.reset.busy := rfl
@[simp] theorem resetCore_incomplete (s : State) : (resetCore s).incomplete = State.reset.incomplete := rfl
@[simp] theorem resetCore_sigok (s : State) : (resetCore s).sigok = State.reset.sigok := rfl
@[simp] theorem resetCore_short (s : State) : (resetCore s).short = State.reset.short := rfl
@[simp] theorem resetCore_crcbad (s : State) : (resetCore s).crcbad = State.reset.crcbad := rfl
@[simp] theorem resetCore_hcsbad (s : State) : (resetCore s).hcsbad = State.reset.hcsbad := rfl
@[simp] theorem resetCore_refused (s : State) : (resetCore s).refused = State.reset.refused := rfl
@[simp] theorem resetCore_exitCode (s : State) : (resetCore s).exitCode = State.reset.exitCode := rfl
@[simp] theorem resetCore_cause (s : State) : (resetCore s).cause = State.reset.cause := rfl
@[simp] theorem resetCore_repairEn (s : State) : (resetCore s).repairEn = State.reset.repairEn := rfl
@[simp] theorem resetCore_rpt (s : State) : (resetCore s).rpt = State.reset.rpt := rfl
@[simp] theorem resetCore_mem (s : State) : (resetCore s).mem = s.mem := rfl
@[simp] theorem resetCore_fileLen (s : State) : (resetCore s).fileLen = s.fileLen := rfl
@[simp] theorem resetCore_writeAccess (s : State) : (resetCore s).writeAccess = s.writeAccess := rfl
@[simp] theorem resetCore_params (s : State) : (resetCore s).params = s.params := rfl
@[simp] theorem resetCore_inputs (s : State) : (resetCore s).inputs = s.inputs := rfl
@[simp] theorem resetCore_answers (s : State) : (resetCore s).answers = s.answers := rfl
@[simp] theorem resetCore_draws (s : State) : (resetCore s).draws = s.draws := rfl

/-! ### the reset state (R321) -/

@[simp] theorem State.reset_cur : State.reset.cur = 0 := rfl
@[simp] theorem State.reset_hoff : State.reset.hoff = 0 := rfl
@[simp] theorem State.reset_saved : State.reset.saved = 0 := rfl
@[simp] theorem State.reset_crc : State.reset.crc = 0xFFFFFFFF#32 := rfl
@[simp] theorem State.reset_crcout : State.reset.crcout = 0 := rfl
@[simp] theorem State.reset_cnt : State.reset.cnt = 0 := rfl
@[simp] theorem State.reset_maxb : State.reset.maxb = 0 := rfl
@[simp] theorem State.reset_res : State.reset.res = 0 := rfl
@[simp] theorem State.reset_dat : State.reset.dat = 0 := rfl
@[simp] theorem State.reset_hcsout : State.reset.hcsout = 0 := rfl
@[simp] theorem State.reset_hb_length : State.reset.hb.length = 24 := List.length_replicate
@[simp] theorem State.reset_hbn : State.reset.hbn = 0 := rfl
@[simp] theorem State.reset_dh : State.reset.dh = .none := rfl
@[simp] theorem State.reset_table_length : State.reset.table.length = 256 := List.length_replicate
@[simp] theorem State.reset_tv : State.reset.tv = false := rfl
@[simp] theorem State.reset_ws : State.reset.ws = .idle := rfl
@[simp] theorem State.reset_re : State.reset.re = false := rfl
@[simp] theorem State.reset_busy : State.reset.busy = false := rfl
@[simp] theorem State.reset_incomplete : State.reset.incomplete = false := rfl
@[simp] theorem State.reset_sigok : State.reset.sigok = false := rfl
@[simp] theorem State.reset_short : State.reset.short = false := rfl
@[simp] theorem State.reset_crcbad : State.reset.crcbad = false := rfl
@[simp] theorem State.reset_hcsbad : State.reset.hcsbad = false := rfl
@[simp] theorem State.reset_refused : State.reset.refused = false := rfl
@[simp] theorem State.reset_exitCode : State.reset.exitCode = false := rfl
@[simp] theorem State.reset_cause : State.reset.cause = .none := rfl
@[simp] theorem State.reset_repairEn : State.reset.repairEn = false := rfl
@[simp] theorem State.reset_rpt : State.reset.rpt = [] := rfl
@[simp] theorem State.reset_mem : State.reset.mem = [] := rfl
@[simp] theorem State.reset_fileLen : State.reset.fileLen = 0 := rfl
@[simp] theorem State.reset_writeAccess : State.reset.writeAccess = false := rfl
@[simp] theorem State.reset_params : State.reset.params = { offsetW := 64, hcsSeed := 0x00#8, probeMin := 24, repairLenPolicy := Config.repairLenPolicy, tableHardwired := false } := rfl
@[simp] theorem State.reset_inputs : State.reset.inputs = [] := rfl
@[simp] theorem State.reset_answers : State.reset.answers = [] := rfl
@[simp] theorem State.reset_draws : State.reset.draws = 0 := rfl

/-! ### The fields the endings write -/

@[simp] theorem stopClean_ws (s : State) : (stopClean s).ws = .stoppedClean := rfl
@[simp] theorem stopClean_cause (s : State) : (stopClean s).cause = .none := rfl
@[simp] theorem stopClean_exitCode (s : State) : (stopClean s).exitCode = false := rfl
@[simp] theorem stopClean_busy (s : State) : (stopClean s).busy = false := rfl
@[simp] theorem stopError_ws (c : Cause) (s : State) : (stopError c s).ws = .stoppedError := rfl
@[simp] theorem stopError_cause (c : Cause) (s : State) : (stopError c s).cause = c := rfl
@[simp] theorem stopError_exitCode (c : Cause) (s : State) : (stopError c s).exitCode = true := rfl
@[simp] theorem stopError_busy (c : Cause) (s : State) : (stopError c s).busy = false := rfl
@[simp] theorem raiseFatal_ws (s : State) : (raiseFatal s).ws = .fatal := rfl
@[simp] theorem raiseFatal_cause (s : State) : (raiseFatal s).cause = .repairIo := rfl
@[simp] theorem raiseFatal_exitCode (s : State) : (raiseFatal s).exitCode = true := rfl
@[simp] theorem raiseFatal_busy (s : State) : (raiseFatal s).busy = false := rfl
@[simp] theorem raiseFatal_mem (s : State) : (raiseFatal s).mem = memFill (Config.freeFileByte s.draws) s.fileLen := rfl
@[simp] theorem raiseFatal_cur (s : State) : (raiseFatal s).cur = s.params.offset (Config.freeCursor s.draws) := rfl
@[simp] theorem raiseFatal_draws (s : State) : (raiseFatal s).draws = s.draws + 1 := rfl
@[simp] theorem refuse_refused (c : Cause) (s : State) : (refuse c s).refused = true := rfl
@[simp] theorem refuse_cause (c : Cause) (s : State) : (refuse c s).cause = if causeIsKept s.ws then s.cause else c := rfl
@[simp] theorem accept_busy (s : State) : (accept s).busy = true := rfl
@[simp] theorem release_busy (s : State) : (release s).busy = false := rfl
@[simp] theorem accept_refused (s : State) : (accept s).refused = (takeOverlapping s.inputs).1 := rfl
@[simp] theorem accept_inputs (s : State) : (accept s).inputs = (takeOverlapping s.inputs).2 := rfl
@[simp] theorem emit_rpt (r : Record) (s : State) : (emit r s).rpt = s.rpt ++ [r] := rfl
@[simp] theorem loadHb_hb (B : List Byte) (s : State) : (loadHb B s).hb = headerBuffer s.draws B := rfl
@[simp] theorem loadHb_hbn (B : List Byte) (s : State) : (loadHb B s).hbn = BitVec.ofNat 5 B.length := rfl
@[simp] theorem loadHb_draws (B : List Byte) (s : State) : (loadHb B s).draws = s.draws + 1 := rfl
@[simp] theorem patchHb_hb (B : List Byte) (s : State) : (patchHb B s).hb = B ++ s.hb.drop B.length := rfl
@[simp] theorem recordOffset_hoff (s : State) : (recordOffset s).hoff = s.cur := rfl
@[simp] theorem compareCrc_crcbad (s : State) : (compareCrc s).crcbad = crcBadFlag s.crcout s.dh.declaredDataCrc32 := rfl
@[simp] theorem reportBlock_rpt (s : State) : (reportBlock s).rpt = s.rpt ++ [.block (blockRecord s)] := rfl
@[simp] theorem checkPayload_maxb (s : State) : (checkPayload s).maxb = s.dh.declaredDataLength := rfl
@[simp] theorem correctFields_dh (s : State) : (correctFields s).dh = correctedHeader s := rfl

end Sys2Proof.Machine
end

