-- ==== Sys2Proof/Laws/Ops.lean ====
section
/-! SUPPORT. One lemma per shared operation that says once everything it can do. -/

namespace Sys2Proof.Machine

/-! ### Flows -/

@[simp] theorem Flow.state_goes (s : State) : (Flow.goes s).state = s := rfl
@[simp] theorem Flow.state_ended (s : State) : (Flow.ended s).state = s := rfl
@[simp] theorem Flow.andThen_goes (s : State) (f : State → Flow) : (Flow.goes s).andThen f = f s := rfl
@[simp] theorem Flow.andThen_ended (s : State) (f : State → Flow) : (Flow.ended s).andThen f = .ended s := rfl

/-! ### Commands -/

/-- What a command can do: the refusals of R289 in their order, or its rule. -/
theorem command_cases {acc : WalkState → Bool} {unready : State → Option Cause} {rule : State → Flow} {s t : State}
    (h : command acc unready rule s = .next t) :
    (s.busy = true ∧ t = refuse .refBusy s) ∨
      (s.busy = false ∧ acc s.ws = false ∧ t = refuse .refState s) ∨
      (s.busy = false ∧ acc s.ws = true ∧ ∃ c, unready s = some c ∧ t = refuse c s) ∨
      (s.busy = false ∧ acc s.ws = true ∧ unready s = none ∧ t = release (rule (accept s)).state) := by
  unfold command at h
  cases hb : s.busy <;> cases ha : acc s.ws <;> simp_all
  cases hu : unready s <;> simp_all

/-- A command always answers with a next state. -/
theorem command_next (acc : WalkState → Bool) (unready : State → Option Cause) (rule : State → Flow) (s : State) :
    ∃ t, command acc unready rule s = .next t := by
  unfold command
  split_ifs
  · exact ⟨_, rfl⟩
  · exact ⟨_, rfl⟩
  · cases unready s <;> exact ⟨_, rfl⟩

/-- An accepted command runs its rule and ends. -/
theorem command_runs {acc : WalkState → Bool} {unready : State → Option Cause} {s : State} (hb : s.busy = false)
    (ha : acc s.ws = true) (hu : unready s = none) (rule : State → Flow) :
    command acc unready rule s = .next (release (rule (accept s)).state) := by
  simp [command, hb, ha, hu]

/-- A command outside its walker states is refused. -/
theorem command_refState {acc : WalkState → Bool} {s : State} (hb : s.busy = false) (ha : acc s.ws = false)
    (unready : State → Option Cause) (rule : State → Flow) :
    command acc unready rule s = .next (refuse .refState s) := by
  simp [command, hb, ha]

/-- A command that is not ready is refused with its own code. -/
theorem command_unready {acc : WalkState → Bool} {unready : State → Option Cause} {s : State} {c : Cause}
    (hb : s.busy = false) (ha : acc s.ws = true) (hu : unready s = some c) (rule : State → Flow) :
    command acc unready rule s = .next (refuse c s) := by
  simp [command, hb, ha, hu]

/-- Acceptance with no write behind it touches `REFUSED` and `BUSY` alone. -/
theorem takeOverlapping_of_none {ins : List HostInput} (h : ∀ reg v rest, ins ≠ .write reg v false :: rest) :
    takeOverlapping ins = (false, ins) := by
  unfold takeOverlapping
  split
  · exact absurd rfl (h _ _ _)
  · rfl

/-! ### The CRC run -/

/-- The loop of a CRC run in closed form: it folds the update over the bytes of the stream, counts them and moves the
cursor by their count (R135, R138). -/
theorem crcLoop_eq (T : List Word) (m : List Host.Cell) (len : Nat) (n : Nat) (a : CrcRun) :
    crcLoop T m len n a =
      { crc := (streamBytes m len a.cur n).foldl (crcUpdate T) a.crc
        cnt := a.cnt + BitVec.ofNat 32 (streamCount len a.cur n)
        cur := a.cur + streamCount len a.cur n } := by
  induction n generalizing a with
  | zero => simp [crcLoop, streamBytes, streamCount]
  | succ n ih =>
    rw [crcLoop]
    by_cases h : len ≤ a.cur
    · simp [streamBytes, streamCount, h]
    · have h1 : a.cur < len := Nat.lt_of_not_le h
      have hc1 : streamCount len a.cur 1 = 1 := by rw [streamCount_of_lt h1]; omega
      have hcn : streamCount len a.cur (n + 1) = streamCount len (a.cur + 1) n + 1 := by
        rw [streamCount_of_lt h1]
        by_cases h2 : len ≤ a.cur + 1
        · rw [streamCount_of_le h2]; omega
        · rw [streamCount_of_lt (Nat.lt_of_not_le h2)]; omega
      have hbytes : streamBytes m len a.cur (n + 1) = memGet m a.cur :: streamBytes m len (a.cur + 1) n := by
        unfold streamBytes
        rw [hcn, Nat.add_comm, memRead_add]
        simp [memRead]
      have hone : streamBytes m len a.cur 1 = [memGet m a.cur] := by
        simp [streamBytes, hc1, memRead]
      simp only [hone, ih, hbytes, List.foldl_cons, hcn, CrcRun.mk.injEq, true_and]
      refine ⟨?_, by omega⟩
      rw [BitVec.add_assoc, BitVec.ofNat_add, BitVec.add_comm (BitVec.ofNat 32 _)]; rfl

/-- A CRC run in closed form (R135, R136). -/
theorem crcRun_eq (s : State) :
    crcRun s =
      { s with
        crc := (streamBytes s.mem s.fileLen s.cur s.maxb.toNat).foldl (crcUpdate s.table) crcSeed
        crcout := ~~~((streamBytes s.mem s.fileLen s.cur s.maxb.toNat).foldl (crcUpdate s.table) crcSeed)
        cnt := BitVec.ofNat 32 (streamCount s.fileLen s.cur s.maxb.toNat)
        cur := s.cur + (streamCount s.fileLen s.cur s.maxb.toNat) } := by
  simp [crcRun, crcLoop_eq]

/-- The table has one entry per byte value. -/
@[simp] theorem builtTable_length : builtTable.length = 256 := by simp [builtTable]

/-! ### The header checksum -/

/-- The run's `RES` does not depend on `DAT` before it (R165). -/
theorem hcsRun_fst (seed d d' : Byte) (B : List Byte) : (hcsRun seed d B).1 = (hcsRun seed d' B).1 := by
  cases B with
  | nil => rfl
  | cons b rest => rfl

/-- After the eight bit steps of a byte, `DAT` is 0 (R161). -/
theorem hcsByteStep_snd (p : Byte × Byte) (b : Byte) : (hcsByteStep p b).2 = 0#8 := by
  have h : ∀ x : Byte, ((((((((x >>> 1) >>> 1) >>> 1) >>> 1) >>> 1) >>> 1) >>> 1) >>> 1) = 0#8 := by decide +kernel
  simpa [hcsByteStep, hcsBitStep] using h b

/-- After a run over at least one byte `DAT` is 0. -/
theorem hcsRun_snd (seed d : Byte) {B : List Byte} (h : B ≠ []) : (hcsRun seed d B).2 = 0#8 := by
  obtain ⟨A, b, rfl⟩ := List.eq_nil_or_concat B |>.resolve_left h
  simp [hcsRun, hcsByteStep_snd]

/-- The checksum over the buffer (R163). -/
theorem hcsOverHb_eq {s : State} (h : checksumRange s.hb ≠ []) :
    hcsOverHb s =
      { s with
        res := hcs s.params.hcsSeed (checksumRange s.hb)
        dat := 0#8
        hcsout := hcs s.params.hcsSeed (checksumRange s.hb) } := by
  simp [hcsOverHb, hcs, hcsRun_snd _ _ h, hcsRun_fst s.params.hcsSeed s.dat 0#8]

/-! ### The header buffer -/

/-- The buffer always holds 24 bytes. -/
theorem headerBuffer_length (d : Nat) {B : List Byte} (h : B.length ≤ 24) : (headerBuffer d B).length = 24 := by
  simp [headerBuffer]; omega

/-- The buffer holds the bytes put into it. -/
@[simp] theorem headerBuffer_take (d : Nat) (B : List Byte) : (headerBuffer d B).take B.length = B := by
  simp [headerBuffer]

/-- Twenty-four bytes fill the buffer. -/
theorem headerBuffer_full (d : Nat) {B : List Byte} (h : B.length = 24) : headerBuffer d B = B := by
  simp [headerBuffer, h]

/-! ### The rewrite -/

/-- What drawing an answer can change: the queue of answers and the draw counter. -/
theorem drawAnswer_eq (s : State) :
    ∃ o ans d, drawAnswer s = (o, { s with answers := ans, draws := d }) := by
  unfold drawAnswer
  split
  · exact ⟨_, _, s.draws, rfl⟩
  · exact ⟨_, s.answers, _, rfl⟩

/-- What a rewrite can do (R263): the write takes place and the cursor is restored, or a stage fails, which is recorded
and fatal. -/
theorem rewriteHeader_cases (access : Bool) (n : Nat) (s : State) :
    ∃ ans d,
      (access = true ∧ s.hoff + n ≤ s.fileLen ∧
        rewriteHeader access n s = .goes { s with
          saved := s.cur, answers := ans, draws := d, mem := memWrite s.mem s.hoff (s.hb.take n) }) ∨
      (∃ stage, rewriteHeader access n s = .ended (raiseFatal (emit (.repairFatal s.hoff stage)
          { s with saved := s.cur, answers := ans, draws := d }))) := by
  unfold rewriteHeader rewriteAnswer
  by_cases hc : (!access || decide (s.fileLen < s.hoff + n)) = true
  · exact ⟨s.answers, s.draws, Or.inr ⟨.write, by simp [hc, failedStage]⟩⟩
  · obtain ⟨o, ans, d, ho⟩ := drawAnswer_eq { s with saved := s.cur }
    refine ⟨ans, d, ?_⟩
    simp only [Bool.or_eq_true, Bool.not_eq_true', decide_eq_true_eq, not_or, Bool.not_eq_false, not_lt] at hc
    have hc' : (!access || decide (s.fileLen < s.hoff + n)) = false := by simp [hc.1, hc.2]
    cases o
    · exact Or.inl ⟨hc.1, hc.2, by simp [hc', ho, failedStage]⟩
    · exact Or.inr ⟨.seek, by simp [hc', ho, failedStage]⟩
    · exact Or.inr ⟨.write, by simp [hc', ho, failedStage]⟩
    · exact Or.inr ⟨.seekBack, by simp [hc', ho, failedStage]⟩

/-! ### The walker -/

/-- What the probe can do (R212): stop for one of two reasons, with a record, or enter a mode. -/
theorem walkProbeRule_cases (s : State) :
    (∃ c r, (c = .probeUnreadable ∨ c = .probeUnrecognized) ∧ (∀ b, r ≠ .block b) ∧
        walkProbeRule s = .ended (stopError c (emit r { s with re := s.repairEn }))) ∨
      (∃ ws, (ws = .scanningV1 ∨ ws = .scanningV2) ∧ s.cur < s.fileLen ∧
        walkProbeRule s = .goes { s with re := s.repairEn, ws := ws }) := by
  by_cases h0 : s.fileLen ≤ s.cur
  · refine Or.inl ?_
    have hW : probeWindow s = [] := by simp [probeWindow, streamBytes, streamCount_of_le h0]
    by_cases h1 : ([] : List Byte).length < s.params.probeMin
    · exact ⟨.probeUnreadable, .probeUnreadable s.cur 0, Or.inl rfl, by simp, by
        simp only [walkProbeRule, hW]; rw [if_pos h1]; rfl⟩
    · exact ⟨.probeUnrecognized, .probeUnrecognized s.cur (le32 [] 0), Or.inr rfl, by simp, by
        simp only [walkProbeRule, hW]
        rw [if_neg h1, if_neg (by decide), if_neg (by decide)]⟩
  · have hlt : s.cur < s.fileLen := Nat.lt_of_not_le h0
    simp only [walkProbeRule]
    split_ifs
    · exact Or.inl ⟨_, _, Or.inl rfl, by simp, rfl⟩
    · exact Or.inr ⟨_, Or.inr rfl, hlt, rfl⟩
    · exact Or.inr ⟨_, Or.inl rfl, hlt, rfl⟩
    · exact Or.inl ⟨_, _, Or.inr rfl, by simp, rfl⟩

/-- What S2 can do (R216). -/
theorem loadHeader_cases (n : Nat) (B : List Byte) (s : State) :
    (B.length = 0 ∧ loadHeader n B s = .ended (stopClean (emit (.cleanEnd s.hoff) (loadHb B s)))) ∨
      (B.length ≠ 0 ∧ B.length < n ∧ loadHeader n B s = .ended (stopError .incompleteHeader
        { emit (.incompleteHeader s.hoff B.length) (loadHb B s) with incomplete := true })) ∨
      (B.length ≠ 0 ∧ n ≤ B.length ∧ loadHeader n B s = .goes (loadHb B s)) := by
  simp only [loadHeader]
  split_ifs with h1 h2
  · exact Or.inl ⟨h1, rfl⟩
  · exact Or.inr (Or.inl ⟨h1, h2, rfl⟩)
  · exact Or.inr (Or.inr ⟨h1, by omega, rfl⟩)

/-- What S3 can do (R217, R218). -/
theorem decodeAndCheck_cases (s : State) :
    (signatureOk (decodeByMode s) = true ∧
        decodeAndCheck s = .goes { s with dh := decodeByMode s, incomplete := false, sigok := true }) ∨
      (signatureOk (decodeByMode s) = false ∧
        decodeAndCheck s = .ended (stopError .badSignature
          (emit (.badSignature s.hoff (decodeByMode s).signature (decodeByMode s))
            { s with dh := decodeByMode s, incomplete := false, sigok := false }))) := by
  cases h : signatureOk (decodeByMode s)
  · exact Or.inr ⟨rfl, by simp [decodeAndCheck, h]⟩
  · exact Or.inl ⟨rfl, by simp [decodeAndCheck, h]⟩

/-- What S10 can do (R224). -/
theorem continueOrStop_cases (s : State) :
    (s.short = true ∧ continueOrStop s = .ended (stopError .payloadShortfall s)) ∨
      (s.short = false ∧ continueOrStop s = .goes s) := by
  cases h : s.short
  · exact Or.inr ⟨rfl, by simp [continueOrStop, h]⟩
  · exact Or.inl ⟨rfl, by simp [continueOrStop, h]⟩

/-- What S9 can do (R223): nothing, or the rewrite of the corrected header. -/
theorem repairBlock_cases (s : State) :
    ((s.re && anyMismatch s) = false ∧ repairBlock s = .goes s) ∨
      ((s.re && anyMismatch s) = true ∧
        repairBlock s = rewriteHeader (correctHeader s).writeAccess (modeSize (correctHeader s).ws) (correctHeader s)) := by
  cases h : (s.re && anyMismatch s)
  · exact Or.inl ⟨rfl, by simp [repairBlock, h]⟩
  · exact Or.inr ⟨rfl, by simp [repairBlock, h]⟩

/-- The correction writes the decoded header, the buffer and the checksum registers, nothing else (R261). -/
theorem correctHeader_eq (s : State) :
    ∃ dh hb res dat out,
      correctHeader s = { s with dh := dh, hb := hb, res := res, dat := dat, hcsout := out } := by
  unfold correctHeader
  split <;> exact ⟨_, _, _, _, _, rfl⟩

/-- S5 writes the checksum registers and `HCSBAD`, nothing else (R219). -/
theorem checkHeaderChecksum_eq (s : State) :
    ∃ res dat out bad,
      checkHeaderChecksum s = { s with res := res, dat := dat, hcsout := out, hcsbad := bad } := by
  unfold checkHeaderChecksum
  split <;> exact ⟨_, _, _, _, rfl⟩

/-! ### The host's registers -/

/-- `0x10` to `0x27` are the bytes of the header buffer (R36). -/
theorem hostReg_hb {k : Nat} (h : k < 24) : hostReg (0x10 + k) = .hb k := by
  revert k; decide

/-- `0x100` to `0x1FF` are the entries of the table (R36). -/
theorem hostReg_table {i : Nat} (h : i < 256) : hostReg (0x100 + i) = .table i := by
  revert i; decide +kernel

/-- The numbers R36 and R40 do not list are reserved. -/
theorem hostReg_unlisted {n : Nat}
    (h : (0x0C ≤ n ∧ n ≤ 0x0F) ∨ (0x28 ≤ n ∧ n ≤ 0x2F) ∨ (0x3C ≤ n ∧ n ≤ 0xFF) ∨ 0x200 ≤ n) :
    hostReg n = .unlisted := by
  by_cases hn : n < 0x200
  · have low : ∀ m, m < 0x200 →
        ((0x0C ≤ m ∧ m ≤ 0x0F) ∨ (0x28 ≤ m ∧ m ≤ 0x2F) ∨ (0x3C ≤ m ∧ m ≤ 0xFF) ∨ 0x200 ≤ m) →
        hostReg m = .unlisted := by decide +kernel
    exact low n hn h
  · unfold hostReg
    iterate 26 rw [if_neg (by omega)]

/-- An accepted host write is the write of its register (R43). -/
theorem hostWrite_runs {s : State} (hb : s.busy = false) (hw : unitAccepts s.ws = true) (n v : Nat) :
    hostWrite n v s = writeRegister n v s := by
  simp [hostWrite, hb, hw]

end Sys2Proof.Machine
end

