-- ==== Sys2Proof/Laws/PerInstr.lean ====
section
/-! SUPPORT. The per-instruction families: statements about every constructor of Instr as syntax, one lemma each. -/

namespace Sys2Proof.Laws.EncodedBits

/-- How many bits the opcode table gives the row of an instruction (R105, R112). -/
def width : Instr → Nat
  | .blockV1 _ => 160
  | .blockV2 _ => 192
  | .crcBuild => 4
  | .crcCompute => 4
  | .hcsCompute => 4
  | .hdrDec1 => 4
  | .hdrDec2 => 4
  | .hdrVsig => 4
  | .hdrEnc => 4
  | .walkProbe => 4
  | .walkStep => 4
  | .walkRun => 4
  | .rprRewrite => 4
  | .reserved0 => 4
  | .reservedC => 4
  | .reservedD => 4
  | .reservedE => 4
  | .reservedF => 4

/-- The word of an instruction has as many bits as its row of the opcode table. -/
def Statement (i : Instr) : Prop := (encode i).bits = width i

theorem blockV1 (h : HeaderV1) : Statement (.blockV1 h) := rfl
theorem blockV2 (h : HeaderV2) : Statement (.blockV2 h) := rfl
theorem crcBuild : Statement .crcBuild := rfl
theorem crcCompute : Statement .crcCompute := rfl
theorem hcsCompute : Statement .hcsCompute := rfl
theorem hdrDec1 : Statement .hdrDec1 := rfl
theorem hdrDec2 : Statement .hdrDec2 := rfl
theorem hdrVsig : Statement .hdrVsig := rfl
theorem hdrEnc : Statement .hdrEnc := rfl
theorem walkProbe : Statement .walkProbe := rfl
theorem walkStep : Statement .walkStep := rfl
theorem walkRun : Statement .walkRun := rfl
theorem rprRewrite : Statement .rprRewrite := rfl
theorem reserved0 : Statement .reserved0 := rfl
theorem reservedC : Statement .reservedC := rfl
theorem reservedD : Statement .reservedD := rfl
theorem reservedE : Statement .reservedE := rfl
theorem reservedF : Statement .reservedF := rfl

end Sys2Proof.Laws.EncodedBits
end

