-- ==== Sys2Proof/Tests/Slice0.lean ====
section
/-! SUPPORT. Tests of the model: words written out from the spec's encodings, single steps with the results of
spec/95_test_vectors.md (the vector's name stands in the comment), the smoke test of the well-formedness checks, and
for every statement with hypotheses a witness that meets them. -/

namespace Sys2Proof.Tests

/- One theorem after another: many kernel evaluations at once take a thread each, and with it memory. -/
set_option Elab.async false

open Sys2Proof Sys2Proof.Machine

/-! ### Helpers -/

/-- Bytes from small numbers. -/
def bytes (l : List Nat) : List Byte := l.map (BitVec.ofNat 8)

/-- A core after reset whose length policy is named. -/
def idle : State := { State.reset with params := ⟨64, 0x00#8, 24, .keepDeclared, false⟩ }

/-- The same with the table built. -/
def ready : State := { idle with table := builtTable, tv := true }

/-- A state with a file. -/
def onFile (B : List Byte) (s : State) : State :=
  { s with mem := memFill (byteAt B) B.length, fileLen := B.length }

/-- A state with valid bytes in the header buffer. -/
def onBuffer (B : List Byte) (s : State) : State :=
  { s with hb := B ++ List.replicate (24 - B.length) 0#8, hbn := BitVec.ofNat 5 B.length }

/-- The answer is a next state that `p` holds of. -/
def leaves (r : Result) (p : State → Bool) : Bool :=
  match r with
  | .next t => p t
  | .fault _ => false
  | .refused _ => false

theorem exists_of_leaves {r : Result} {p : State → Bool} (h : leaves r p = true) : ∃ t, r = .next t ∧ p t = true := by
  cases r with
  | next t => exact ⟨t, rfl, h⟩
  | fault f => cases h
  | refused f => cases h

/-- "123456789". -/
def digits : List Byte := bytes [0x31, 0x32, 0x33, 0x34, 0x35, 0x36, 0x37, 0x38, 0x39]

/-- P1's header. -/
def headP1 : List Byte :=
  bytes [0x55, 0xAA, 1, 0, 0, 0, 0, 0, 9, 0, 0, 0, 0x26, 0x39, 0xF4, 0xCB, 3, 0, 2, 1]

/-- P2's header. -/
def headP2 : List Byte :=
  bytes [0x55, 0xAA, 2, 0x7F, 0, 0, 0, 0, 9, 0, 0, 0, 0xEF, 0xBE, 0xAD, 0xDE, 0x2C, 1, 1, 0]

/-- P3's first header, also DC2. -/
def headP3 : List Byte :=
  bytes [0x5A, 0, 0, 0, 0x66, 0, 1, 0, 7, 0, 1, 2, 0x26, 0x39, 0xF4, 0xCB, 9, 0, 0, 0, 0, 0, 4, 0]

/-- RW4's header: only the header checksum is wrong. -/
def headRW4 : List Byte :=
  bytes [0x5A, 0, 0, 0, 0xFF, 1, 0, 0, 0, 0, 0, 1, 0x43, 0xBE, 0xB7, 0xE8, 1, 0, 0, 0, 0, 0, 0, 0]

/-- P4's header: ten bytes of payload more than the file holds. -/
def headP4 : List Byte :=
  bytes [0x5A, 0, 0, 0, 0xE2, 1, 2, 1, 0x10, 0, 0, 2, 0x34, 0x9D, 0x6A, 0x27, 0x10, 0, 0, 0, 0, 0, 5, 0]

/-- P4's payload. -/
def payloadP4 : List Byte := bytes [0x40, 0x41, 0x42, 0x43, 0x44, 0x45]

/-- P1's header as a value. -/
def hP1 : HeaderV1 := ⟨0xAA55#16, 1#8, 0#8, 0#32, 9#32, 0xCBF43926#32, 0x01020003#32⟩

/-- P2's header as a value. -/
def hP2 : HeaderV1 := ⟨0xAA55#16, 2#8, 0x7F#8, 0#32, 9#32, 0xDEADBEEF#32, 0x0001012C#32⟩

/-- DC2's header as a value. -/
def hP3 : HeaderV2 := ⟨0x5A#32, 0x66#8, 0#8, 1#16, 0x02010007#32, 0xCBF43926#32, 9#32, 0#16, 4#16⟩

/-- P4's header as a value. -/
def hP4 : HeaderV2 := ⟨0x5A#32, 0xE2#8, 1#8, 0x0102#16, 0x02000010#32, 0x276A9D34#32, 16#32, 0#16, 5#16⟩

/-- RW4's header as a value. -/
def hRW4 : HeaderV2 := ⟨0x5A#32, 0xFF#8, 1#8, 0#16, 0x01000000#32, 0xE8B7BE43#32, 1#32, 0#16, 0#16⟩

/-- A scan of P1's file, at its block. -/
def scanP1 : State := onFile (headP1 ++ digits) { ready with ws := .scanningV1 }

/-- A scan of P2's file with repair on and a port that answers `Ok`. -/
def scanP2 : State :=
  onFile (headP2 ++ digits) { ready with ws := .scanningV1, re := true, writeAccess := true, answers := [.ok] }

/-- A scan of P3's first block. -/
def scanP3 : State := onFile (headP3 ++ digits) { ready with ws := .scanningV2 }

/-- A scan of RW4's file with repair on and a port that answers `Ok`. -/
def scanRW4 : State :=
  onFile (headRW4 ++ bytes [0x61])
    { ready with ws := .scanningV2, re := true, writeAccess := true, answers := [.ok] }

/-- A scan of P4's file, a short final block, with repair on, a port that answers `Ok`, and the length policy `p`. -/
def scanP4 (p : RepairLenPolicy) : State :=
  onFile (headP4 ++ payloadP4)
    { ready with ws := .scanningV2, re := true, writeAccess := true, answers := [.ok, .ok],
                 params := ⟨64, 0x00#8, 24, p, false⟩ }

/-- The core `s` with one accepted register write before it. -/
def writing (n v : Nat) (s : State) : State := { s with inputs := [.write n v true] }

/-! ### Well-formedness -/

theorem test_illformed_v1_signature : Instr.wellFormed (.blockV1 { hP1 with signature := 0x55AA#16 }) = false := by decide

theorem test_illformed_v2_signature : Instr.wellFormed (.blockV2 { hP3 with signature := 0x0100005A#32 }) = false := by
  decide

theorem test_wellformed_headers : Instr.wellFormed (.blockV1 hP1) = true ∧ Instr.wellFormed (.blockV2 hP3) = true := by
  decide

/-! ### Decoding: the words of R105 and R106, and P1's and P3's headers laid out by R92 and R93 -/

theorem test_decode_crcBuild : decodeTableWord 8 0x1 = some .crcBuild := by decide
theorem test_decode_crcCompute : decodeTableWord 8 0x2 = some .crcCompute := by decide
theorem test_decode_hcsCompute : decodeTableWord 8 0x3 = some .hcsCompute := by decide
theorem test_decode_hdrDec1 : decodeTableWord 8 0x4 = some .hdrDec1 := by decide
theorem test_decode_hdrDec2 : decodeTableWord 8 0x5 = some .hdrDec2 := by decide
theorem test_decode_hdrVsig : decodeTableWord 8 0x6 = some .hdrVsig := by decide
theorem test_decode_hdrEnc : decodeTableWord 8 0x7 = some .hdrEnc := by decide
theorem test_decode_walkProbe : decodeTableWord 8 0x8 = some .walkProbe := by decide
theorem test_decode_walkStep : decodeTableWord 8 0x9 = some .walkStep := by decide
theorem test_decode_walkRun : decodeTableWord 8 0xA = some .walkRun := by decide
theorem test_decode_rprRewrite : decodeTableWord 8 0xB = some .rprRewrite := by decide
theorem test_decode_reserved0 : decodeTableWord 8 0x0 = some .reserved0 := by decide
theorem test_decode_reservedC : decodeTableWord 8 0xC = some .reservedC := by decide
theorem test_decode_reservedD : decodeTableWord 8 0xD = some .reservedD := by decide
theorem test_decode_reservedE : decodeTableWord 8 0xE = some .reservedE := by decide
theorem test_decode_reservedF : decodeTableWord 8 0xF = some .reservedF := by decide

theorem test_decode_blockV1 :
    decodeTableWord 160 0x01020003CBF4392600000009000000000001AA55 = some (.blockV1 hP1) := by decide

theorem test_decode_blockV2 :
    decodeTableWord 192 0x0004000000000009CBF4392602010007000100660000005A = some (.blockV2 hP3) := by decide

theorem test_decode_refuses_signature : decodeTableWord 160 0xAA54 = none := by decide

theorem test_encode_blockV1 : encode (.blockV1 hP1) = .header headP1 := by decide

theorem test_encode_blockV2 : encode (.blockV2 hP3) = .header headP3 := by decide

/-! ### The units' functions -/

/-- TB4. -/
theorem test_iter32_tb4 : iter32 0xFFFFFFFF#32 = 0x92477CDF#32 := by decide

/-- TB8, TB9. -/
theorem test_tbl_tb8_tb9 : tbl 255 = 0x2D02EF8D#32 ∧ tbl 206 = 0x7CDCEFB7#32 := by decide +kernel

/-- HC6, HC13. -/
theorem test_hcs_hc6_hc13 : hcs 0x00#8 digits = 0xA1#8 ∧ hcs 0xFF#8 (bytes [0]) = 0x35#8 := by decide +kernel

/-- FV3. -/
theorem test_version_fv3 :
    versionMajor 0x0001012C#32 = 0#8 ∧ versionMinor 0x0001012C#32 = 1#8 ∧ versionPatch 0x0001012C#32 = 300#16 := by
  decide

/-- TG1, TG2, TG3. -/
theorem test_tags :
    blockTypeTag .v1 0#8 = none ∧ blockTypeTag .v1 1#8 = some .cpu ∧ blockTypeTag .v2 1#8 = some .ble ∧
      deviceTypeTag 5#16 = some .mjdjj03fy ∧ deviceTypeTag 9#16 = none := by decide

/-! ### One operation each -/

/-- TB10. -/
theorem test_crcBuild_tb10 :
    leaves (exec .crcBuild idle) (fun t => t.tv && t.status == 2#32 && t.table.getD 206 0 == 0x7CDCEFB7#32) = true := by
  decide +kernel

/-- CR8: the stream ends before the bound. -/
theorem test_crcCompute_cr8 :
    leaves (exec .crcCompute (onFile digits { ready with maxb := 100 }))
      (fun t => t.crcout == 0xCBF43926#32 && t.cnt == 9#32 && t.cur == 9 && t.crc == 0x340BC6D9#32) = true := by
  decide +kernel

/-- CR15: the cursor stands at the end. -/
theorem test_crcCompute_cr15 :
    leaves (exec .crcCompute (onFile digits { ready with cur := 9, maxb := 4 }))
      (fun t => t.crcout == 0#32 && t.cnt == 0#32 && t.cur == 9) = true := by
  decide +kernel

/-- HC10, through the buffer. -/
theorem test_hcsCompute_hc10 :
    leaves (exec .hcsCompute (onBuffer headP3 idle)) (fun t => t.hcsout == 0x66#8) = true := by
  decide +kernel

/-- The refusal below the table of HC1 to HC14. -/
theorem test_hcsCompute_hbn23 :
    leaves (exec .hcsCompute { idle with hbn := 23 }) (fun t => t.refused && t.cause.code == 12#4) = true := by decide

/-- DC1. -/
theorem test_hdrDec1_dc1 :
    leaves (exec .hdrDec1 (onBuffer headP1 idle)) (fun t => t.dh == .v1 hP1 && !t.incomplete) = true := by decide +kernel

/-- DC3. -/
theorem test_hdrDec1_dc3 :
    leaves (exec .hdrDec1 { onBuffer headP1 idle with hbn := 19 }) (fun t => t.dh == .none && t.incomplete) = true := by
  decide +kernel

/-- DC2. -/
theorem test_hdrDec2_dc2 :
    leaves (exec .hdrDec2 (onBuffer headP3 idle)) (fun t => t.dh == .v2 hP3 && !t.incomplete) = true := by decide +kernel

/-- DC5. -/
theorem test_hdrDec2_dc5 :
    leaves (exec .hdrDec2 (onBuffer headP1 idle)) (fun t => t.dh == .none && t.incomplete) = true := by decide +kernel

/-- VS1. -/
theorem test_hdrVsig_vs1 : leaves (exec .hdrVsig { idle with dh := .v1 hP1 }) (fun t => t.sigok) = true := by decide

/-- VS4. -/
theorem test_hdrVsig_vs4 :
    leaves (exec .hdrVsig { idle with dh := .v2 { hP3 with signature := 0x0100005A#32 }, sigok := true })
      (fun t => !t.sigok) = true := by decide

/-- DC1, backwards. -/
theorem test_hdrEnc_dc1 :
    leaves (exec .hdrEnc { idle with dh := .v1 hP1 }) (fun t => t.hb.take 20 == headP1 && t.hbn == 20#5) = true := by
  decide +kernel

/-- DC2, backwards. -/
theorem test_hdrEnc_dc2 :
    leaves (exec .hdrEnc { idle with dh := .v2 hP3 }) (fun t => t.hb == headP3 && t.hbn == 24#5) = true := by
  decide +kernel

/-- W6. -/
theorem test_walkProbe_w6 :
    leaves (exec .walkProbe (onFile (bytes [0x5A, 0, 0, 0] ++ List.replicate 20 1#8) ready))
      (fun t => t.ws == .scanningV2 && t.cur == 0 && t.rpt == []) = true := by decide +kernel

/-- W1. -/
theorem test_walkProbe_w1 :
    leaves (exec .walkProbe ready) (fun t => t.status == 0x00001812#32 && t.rpt == [.probeUnreadable 0 0]) = true := by
  decide +kernel

/-- W7, its second `WALK.STEP`. -/
theorem test_walkStep_w7 :
    leaves (exec .walkStep
        { onFile (headP1 ++ digits ++ bytes [0x55, 0xAA, 1, 0, 0]) { ready with ws := .scanningV1 } with cur := 29 })
      (fun t => t.ws == .stoppedError && t.cause.code == 3#4 && t.cur == 34 && t.hbn == 5#5 &&
        t.rpt == [.incompleteHeader 29 5]) = true := by
  decide +kernel

/-- P1, its first `WALK.STEP`. -/
theorem test_walkStep_p1 :
    leaves (exec .walkStep scanP1)
      (fun t => t.ws == .scanningV1 && t.cur == 29 && t.crcout == 0xCBF43926#32 && t.hbn == 20#5 &&
        !t.crcbad && !t.short) = true := by
  decide +kernel

/-- P2, scanned and repaired by one operation. -/
theorem test_walkRun_p2 :
    leaves (exec .walkRun (onFile (headP2 ++ digits) { ready with repairEn := true, writeAccess := true, answers := [.ok] }))
      (fun t => t.status == 0x0000014E#32 && t.cur == 29 &&
        memRead t.mem 12 4 == bytes [0x26, 0x39, 0xF4, 0xCB]) = true := by
  decide +kernel

/-- P4 without repair: a shortfall. -/
theorem test_walkRun_p4 :
    leaves (exec .walkRun (onFile (headP4 ++ payloadP4) ready))
      (fun t => t.status == 0x000059D2#32 && t.cur == 30 && t.crcout == 0x0A6B4607#32) = true := by
  decide +kernel

/-- P6, its last command. -/
theorem test_rprRewrite_p6 :
    leaves (exec .rprRewrite { onBuffer headP1 (onFile (headP2 ++ digits) idle) with cur := 29, answers := [.ok] })
      (fun t => memRead t.mem 0 29 == headP1 ++ digits && t.cur == 29 && t.ws == .idle) = true := by
  decide +kernel

/-- RW7. -/
theorem test_rprRewrite_rw7 :
    leaves (exec .rprRewrite { onBuffer headP1 (onFile (headP2 ++ digits) idle) with hoff := 15 })
      (fun t => t.ws == .fatal && t.cause.code == 6#4 && t.exitCode && t.rpt == [.repairFatal 15 .write]) = true := by
  decide +kernel

/-- P1's block as the word of the stream. -/
theorem test_blockV1_p1 :
    leaves (exec (.blockV1 hP1) scanP1)
      (fun t => t.rpt == [.block (blockRecordV1 hP1 0 9 0xCBF43926#32)] && t.cur == 29) = true := by
  decide +kernel

/-- W8's second block: a V2 header met in `ScanningV1`. -/
theorem test_blockV1_mode_w8 :
    leaves (exec (.blockV2 { hP3 with signature := 0x5A#32 }) scanP1)
      (fun t => t.ws == .stoppedError && t.cause.code == 4#4 && t.cur == 20 && !t.sigok) = true := by
  decide +kernel

/-- RW4. -/
theorem test_blockV2_rw4 :
    leaves (exec (.blockV2 hRW4) scanRW4)
      (fun t => t.hcsbad && !t.crcbad && memRead t.mem 0 25 == headRW4.set 4 0x0C#8 ++ bytes [0x61]) = true := by
  decide +kernel

/-- Q4, and the same of the other four codes. -/
theorem test_reserved0 : leaves (exec .reserved0 idle) (fun t => t.refused && t.cause.code == 8#4) = true := by decide
theorem test_reservedC : leaves (exec .reservedC idle) (fun t => t.refused && t.cause.code == 8#4) = true := by decide
theorem test_reservedD : leaves (exec .reservedD idle) (fun t => t.refused && t.cause.code == 8#4) = true := by decide
theorem test_reservedE : leaves (exec .reservedE idle) (fun t => t.refused && t.cause.code == 8#4) = true := by decide
theorem test_reservedF : leaves (exec .reservedF idle) (fun t => t.refused && t.cause.code == 8#4) = true := by decide

/-- A step runs the word that was placed. -/
theorem test_step_placed_code :
    leaves (step (idle.withFetchWord 8 0x1)) (fun t => t.tv && t.inputs.isEmpty) = true := by decide +kernel

/-- A step runs the header word that was placed. -/
theorem test_step_placed_header :
    leaves (step (idle.withFetchWord 160 0x01020003CBF4392600000000000000000001AA55))
      (fun t => t.dh == .v1 { hP1 with declaredDataLength := 0 } && t.cur == 20 && t.crcbad) = true := by
  decide +kernel

/-! ### Witnesses: concrete states and operands that meet the hypotheses of the statements -/

/-- A unit operation, a register write, a failing `RPR.REWRITE` and the reset step, each from an end state. -/
theorem witness_EndStatesAreLeftByResetOrAFailedRewrite :
    leaves (step (writing 0 6 { idle with ws := .stoppedClean })) (fun t => t.ws == .stoppedClean) = true ∧
      leaves (step (writing 3 6 { idle with ws := .stoppedError })) (fun t => t.ws == .stoppedError && t.cur == 6) = true ∧
      leaves (step (writing 0 0xB (onBuffer headP1 { idle with ws := .stoppedError }))) (fun t => t.ws == .fatal) = true ∧
      leaves (step { idle with ws := .fatal, inputs := [.reset] }) (fun t => t.ws == .idle) = true ∧
      leaves (exec .rprRewrite (onBuffer headP1 { idle with ws := .stoppedClean })) (fun t => t.ws == .fatal) = true := by
  decide +kernel

theorem witness_FatalRefusesEveryCommand : ∃ s : State, s.busy = false ∧ s.ws = .fatal :=
  ⟨{ idle with ws := .fatal }, rfl, rfl⟩

theorem witness_BusyRefusesEveryCommand : ∃ s : State, s.busy = true := ⟨{ idle with busy := true }, rfl⟩

theorem witness_RefusalAndAcceptanceChangeTheirFields :
    (∀ reg v rest, ({ idle with inputs := [.write 0 1 true] } : State).inputs ≠ .write reg v false :: rest) ∧
      ∀ reg v rest, idle.inputs ≠ .write reg v false :: rest :=
  ⟨(by intro _ _ _ h; cases h), (by intro _ _ _ h; cases h)⟩

theorem witness_OverlappingWritesMeetABusyCore :
    let pre : List HostInput := [.write 2 1 false, .write 0 9 false]
    let rest : List HostInput := [.write 0 9 true]
    (∀ x ∈ pre, ∃ reg v, x = .write reg v false) ∧ (∀ reg v tl, rest ≠ .write reg v false :: tl) ∧
      (∃ v, HostInput.write 0 v false ∈ pre) ∧ ¬ ∃ v, HostInput.write 0 v false ∈ [HostInput.write 2 1 false] := by
  simp

theorem witness_CommandsOutsideTheirStatesAreRefused :
    isReserved .walkStep = false ∧ admits .walkStep idle.ws = false ∧ idle.busy = false ∧
      admits .walkProbe .stoppedClean = false ∧ admits .crcCompute .scanningV1 = false ∧
      admits (.blockV1 hP1) .idle = false ∧ admits .rprRewrite .scanningV2 = false := by decide

theorem witness_NoTableRefusesTheOperationsThatNeedIt :
    idle.busy = false ∧ idle.tv = false ∧ idle.ws = .idle := by decide

theorem witness_NoHeaderRefusesTheOperationsThatNeedOne :
    idle.busy = false ∧ idle.ws = .idle ∧ idle.dh = .none ∧ (∀ n ∈ [0, 19, 21, 23], n < 24 ∧ n ≠ 20 ∧ n ≠ 24) := by
  decide

theorem witness_ReservedCodesAreRefused :
    idle.busy = false ∧
      ({ idle with inputs := [.write 0 0xF true] } : State).inputs = .write 0 (0xF#4).toNat true :: [] := by
  decide

theorem witness_DecodeReadsBackEveryEncodedInstruction :
    Instr.wellFormed (.blockV1 hP1) = true ∧ encode (.blockV1 hP1) = .header headP1 ∧
      Instr.wellFormed (.blockV2 hP3) = true ∧ encode (.blockV2 hP3) = .header headP3 := by decide

theorem witness_EncodeWritesBackEveryDecodedWord :
    decode (.header headP1) = .ok (.blockV1 hP1) ∧ decode (.header (headP1 ++ digits)) = .ok (.blockV1 hP1) ∧
      decode (.header headP3) = .ok (.blockV2 hP3) := ⟨by rfl, by rfl, by rfl⟩

theorem witness_HeaderCodecRoundTrips : headP1.length = 20 ∧ headP3.length = 24 := by decide

theorem witness_StepRunsTheDecodedInstruction :
    ({ idle with inputs := [.write 0 1 true] } : State).inputs = .write 0 1 true :: [] ∧
      decode (.code (BitVec.ofNat 4 1)) = .ok .crcBuild ∧ (Instr.crcBuild ≠ .walkStep) ∧
      decode (.header (streamBytes scanP1.mem scanP1.fileLen scanP1.cur 20)) = .ok (.blockV1 hP1) ∧
      decode (.header (streamBytes scanP3.mem scanP3.fileLen scanP3.cur 24)) = .ok (.blockV2 hP3) ∧
      scanP1.busy = false ∧ scanP1.ws = .scanningV1 ∧ scanP3.busy = false ∧ scanP3.ws = .scanningV2 :=
  ⟨rfl, rfl, by decide, by rfl, by rfl, rfl, rfl, rfl, rfl⟩

theorem witness_WalkStepRunsTheBlockTheFileHolds :
    streamBytes scanP1.mem scanP1.fileLen scanP1.cur 20 = encV1 hP1 ∧
      streamBytes scanP3.mem scanP3.fileLen scanP3.cur 24 = encV2 hP3 ∧ BitVec.ofNat 4 9 = 0x9#4 := by
  decide +kernel

theorem witness_StepTakesTheHostsOtherInputs :
    scanAccepts scanP1.ws = true ∧ scanAccepts idle.ws = false ∧ digits.length < 2 ^ idle.params.offsetW ∧
      ([] : List Byte).length < 2 ^ idle.params.offsetW ∧
      ({ idle with inputs := [.attach digits] } : State).inputs = .attach digits :: [] ∧
      ({ idle with inputs := [.grant true] } : State).inputs = .grant true :: [] ∧
      ({ idle with inputs := [.portAnswer .ok] } : State).inputs = .portAnswer .ok :: [] ∧
      ({ idle with inputs := [.reset] } : State).inputs = .reset :: [] ∧
      (writing 3 9 idle).inputs = .write 3 9 true :: [] ∧ (3 : Nat) ≠ 0 := by decide

/-- The shortest file that is too long. -/
theorem witness_StepTakesTheHostsOtherInputs_tooLong :
    ∃ (s : State) (B : List Byte) (rest : List HostInput), s.inputs = .attach B :: rest ∧ scanAccepts s.ws = false ∧
      2 ^ s.params.offsetW ≤ B.length :=
  ⟨{ idle with inputs := [.attach (List.replicate (2 ^ 64) 0#8)] }, _, _, rfl, rfl,
    le_of_eq (List.length_replicate).symm⟩

theorem witness_HostWritesAreIgnoredDuringAScan :
    let s : State := { scanP1 with inputs := [.write 3 5 true] }
    s.inputs = .write 3 5 true :: [] ∧ s.ws = .scanningV1 := ⟨rfl, rfl⟩

/-- Register by register, at the ends of each range, what R36 and R40 say a read gives after a write of `2^64 + 0x1FF02`
over tag `V1`; `HBN` reads 24. -/
theorem witness_HostWritesReadBack :
    idle.busy = false ∧ idle.ws = .idle ∧ idle.hb.length = 24 ∧
      (∀ p ∈ [(0x02, 0), (0x03, 0x1FF02), (0x04, 0x1FF02), (0x05, 0x1FF02), (0x09, 24), (0x10, 0x02), (0x27, 0x02),
          (0x30, 2), (0x31, 0xFF02), (0x33, 0x02), (0x34, 0x02), (0x35, 0x1FF02), (0x37, 0x1FF02), (0x38, 0x1FF02),
          (0x39, 0x1FF02)],
        leaves (step (writing p.1 (2 ^ 64 + 0x1FF02) { idle with dh := .v1 hP1 }))
          (fun t => t.readRegister p.1 == some p.2) = true) ∧
      (∀ p ∈ [(0x30, 2), (0x31, 0x1FF02), (0x32, 0x02), (0x33, 0x02), (0x36, 0xFF02), (0x37, 0x1FF02), (0x38, 0x1FF02),
          (0x39, 0x1FF02), (0x3A, 0xFF02), (0x3B, 0xFF02)],
        leaves (step (writing p.1 (2 ^ 64 + 0x1FF02) { idle with dh := .v2 hP3 }))
          (fun t => t.readRegister p.1 == some p.2) = true) := by decide +kernel

/-- Read-only and reserved numbers at the ends of their ranges, and the fields a tag does not have, ignore a write. -/
theorem witness_HostWritesChangeTheirRegisterAlone :
    (∀ n ∈ [0x01, 0x06, 0x08, 0x0A, 0x0B, 0x0C, 0x0F, 0x28, 0x2F, 0x32, 0x36, 0x3A, 0x3B, 0x3C, 0xFF, 0x100, 0x1FF, 0x200],
        leaves (step (writing n 5 { idle with dh := .v1 hP1 })) (fun t => t == { idle with dh := .v1 hP1 }) = true) ∧
      (∀ n ∈ [0x34, 0x35],
        leaves (step (writing n 5 { idle with dh := .v2 hP3 })) (fun t => t == { idle with dh := .v2 hP3 }) = true) ∧
      (∀ n ∈ [0x31, 0x3B], leaves (step (writing n 5 idle)) (fun t => t == idle) = true) ∧
      idle.busy = false ∧ idle.ws = .idle ∧ idle.hb.length = 24 ∧ idle.dh = .none := by decide +kernel

/-- Every code of `DH.tag`, from every tag. -/
theorem witness_HostWritesOfTheTagChangeTheVariant :
    (∀ p ∈ [(0, 0), (1, 1), (2, 2), (3, 0), (4, 0)],
        leaves (step (writing 0x30 p.1 idle)) (fun t => t.readRegister 0x30 == some p.2) = true) ∧
      (∀ p ∈ [(0, 0), (1, 1), (2, 2), (3, 1)],
        leaves (step (writing 0x30 p.1 { idle with dh := .v1 hP1 })) (fun t => t.readRegister 0x30 == some p.2) = true) ∧
      (∀ p ∈ [(0, 0), (1, 1), (2, 2), (3, 2)],
        leaves (step (writing 0x30 p.1 { idle with dh := .v2 hP3 })) (fun t => t.readRegister 0x30 == some p.2) = true) := by
  decide +kernel

/-- An empty log, the ends of `HB` and of the table, every tag, and the ends of the reserved ranges. -/
theorem witness_HostReadsGiveEveryRegister :
    idle.rpt.length < 2 ^ 32 ∧ (onBuffer headP3 idle).hb[0]? = some 0x5A#8 ∧ (onBuffer headP3 idle).hb[23]? = some 0#8 ∧
      idle.dh = .none ∧ ({ idle with dh := .v1 hP1 } : State).dh = .v1 hP1 ∧
      ({ idle with dh := .v2 hP3 } : State).dh = .v2 hP3 ∧ ready.table[0]? = some 0#32 ∧
      ready.table[255]? = some 0x2D02EF8D#32 ∧
      (∀ n ∈ [0x0C, 0x0F, 0x28, 0x2F, 0x3C, 0xFF, 0x200], ready.readRegister n = some 0) := by decide +kernel

theorem witness_CrcBuildFillsTheTable :
    idle.busy = false ∧ idle.ws = .idle ∧ scanP1.busy = false ∧ scanP1.ws = .scanningV1 := by decide

theorem witness_CrcComputeRunsOverTheStream :
    ready.busy = false ∧ ready.ws = .idle ∧ ready.tv = true ∧ idle.busy = false ∧ idle.tv = false ∧
      scanP1.busy = false ∧ scanP1.ws = .scanningV1 := by decide

theorem witness_CrcComputeIsTheReflectedCrc32 :
    ∃ s t : State, s.busy = false ∧ s.ws = .idle ∧ s.tv = true ∧ s.table = builtTable ∧ exec .crcCompute s = .next t := by
  obtain ⟨t, h, -⟩ := exists_of_leaves test_crcCompute_cr8
  exact ⟨_, t, rfl, rfl, rfl, rfl, h⟩

theorem witness_HcsComputeChecksTheNineteenBytes :
    (onBuffer headP3 idle).busy = false ∧ (onBuffer headP3 idle).hb.length = 24 ∧ (onBuffer headP3 idle).ws = .idle ∧
      24 ≤ (onBuffer headP3 idle).hbn.toNat ∧ ({ idle with hbn := 23 } : State).hbn.toNat < 24 := by decide

theorem witness_HcsDependsOnTheNineteenBytesAlone :
    ∃ s s' t t' : State, s.busy = false ∧ s'.busy = false ∧ unitAccepts s.ws = true ∧ unitAccepts s'.ws = true ∧
      24 ≤ s.hbn.toNat ∧ 24 ≤ s'.hbn.toNat ∧ s.params.hcsSeed = s'.params.hcsSeed ∧
      (∀ k, 5 ≤ k → k < 24 → s.hb[k]? = s'.hb[k]?) ∧ s.hb ≠ s'.hb ∧
      exec .hcsCompute s = .next t ∧ exec .hcsCompute s' = .next t' := by
  have h : leaves (exec .hcsCompute (onBuffer (headP3.set 4 0x67#8) idle)) (fun _ => true) = true := by decide +kernel
  obtain ⟨t, ht, -⟩ := exists_of_leaves test_hcsCompute_hc10
  obtain ⟨t', ht', -⟩ := exists_of_leaves h
  exact ⟨onBuffer headP3 idle, onBuffer (headP3.set 4 0x67#8) idle, t, t', rfl, rfl, rfl, rfl, by decide, by decide, rfl,
    by decide, by decide, ht, ht'⟩

theorem witness_SingleBitFlipChangesTheChecksum :
    18 < ((headP3.drop 5).take 19).length ∧ 0 < ((headP3.drop 5).take 19).length ∧ 7 < 8 := by decide

theorem witness_HdrDec1DecodesTheBuffer :
    let s := onBuffer headP1 idle
    s.busy = false ∧ s.hb.length = 24 ∧ s.hbn.toNat ≤ 24 ∧ s.ws = .idle ∧ 20 ≤ s.hbn.toNat ∧
      ({ s with hbn := 19 } : State).hbn.toNat < 20 ∧ scanP1.hb.length = 24 ∧ scanP1.hbn.toNat ≤ 24 ∧
      scanP1.busy = false ∧ scanP1.ws = .scanningV1 := by decide

theorem witness_HdrDec2DecodesTheBuffer :
    let s := onBuffer headP3 idle
    s.busy = false ∧ s.hb.length = 24 ∧ s.hbn.toNat ≤ 24 ∧ s.ws = .idle ∧ 24 ≤ s.hbn.toNat ∧
      ({ s with hbn := 23 } : State).hbn.toNat < 24 := by decide

theorem witness_HdrVsigComparesTheSignature :
    idle.busy = false ∧ idle.ws = .idle ∧ idle.dh = .none ∧ ({ idle with dh := .v1 hP1 } : State).dh = .v1 hP1 ∧
      ({ idle with dh := .v2 hP3 } : State).dh = .v2 hP3 ∧ scanP1.ws = .scanningV1 := by decide

theorem witness_HdrEncEncodesTheHeader :
    idle.busy = false ∧ idle.ws = .idle ∧ idle.dh = .none ∧ ({ idle with dh := .v1 hP1 } : State).dh = .v1 hP1 ∧
      ({ idle with dh := .v2 hP3 } : State).dh = .v2 hP3 ∧ scanP1.ws = .scanningV1 := by decide

/-- A window of 23 bytes, of 24 with either signature, and of 24 with neither. -/
theorem witness_WalkProbePicksTheFormat :
    ready.busy = false ∧ ready.ws = .idle ∧ ready.tv = true ∧ 4 ≤ ready.params.probeMin ∧
      (let s := onFile (headP3.take 23) ready
       min 24 (s.fileLen - s.cur) < s.params.probeMin) ∧
      (let s := onFile headP3 ready
       s.params.probeMin ≤ min 24 (s.fileLen - s.cur) ∧ le32 (memRead s.mem 0 24) 0 = 0x5A#32) ∧
      (let s := onFile (headP1 ++ digits) ready
       s.params.probeMin ≤ min 24 (s.fileLen - s.cur) ∧ le16 (memRead s.mem 0 24) 0 = 0xAA55#16) ∧
      (let s := onFile (headP1.set 0 0#8 ++ digits) ready
       s.params.probeMin ≤ min 24 (s.fileLen - s.cur) ∧ le32 (memRead s.mem 0 24) 0 ≠ 0x5A#32 ∧
         le16 (memRead s.mem 0 24) 0 ≠ 0xAA55#16) := by
  decide +kernel

/-- The cursor at the end; 1 and 19 bytes left in `ScanningV1`; 23 bytes left in `ScanningV2`. -/
theorem witness_WalkStepStopsWithoutAWholeHeader :
    scanP1.busy = false ∧ scanP1.ws = .scanningV1 ∧ scanP3.ws = .scanningV2 ∧
      scanP1.fileLen ≤ ({ scanP1 with cur := 29 } : State).cur ∧
      (let s : State := { scanP1 with cur := 28 }
       s.cur < s.fileLen ∧ s.fileLen - s.cur = 1) ∧
      (let s : State := { scanP1 with cur := 10 }
       s.cur < s.fileLen ∧ s.fileLen - s.cur = 19) ∧
      (let s : State := { scanP3 with cur := 10 }
       s.cur < s.fileLen ∧ s.fileLen - s.cur = 23) := by
  decide +kernel

theorem witness_BadSignatureStopsTheScan :
    scanP1.busy = false ∧ scanP1.ws = .scanningV1 ∧ ({ hP1 with signature := 0x005A#16 } : HeaderV1).signature ≠ 0xAA55#16 ∧
      scanP3.busy = false ∧ scanP3.ws = .scanningV2 ∧
      ({ hP3 with signature := 0x0100005A#32 } : HeaderV2).signature ≠ 0x5A#32 := by decide

theorem witness_OtherFormatIsABadSignature :
    scanP1.busy = false ∧ scanP1.ws = .scanningV1 ∧ hP3.wellFormed = true ∧ scanP3.busy = false ∧
      scanP3.ws = .scanningV2 ∧ hP1.wellFormed = true ∧
      ({ scanP3 with cur := 9 } : State).cur + 24 ≤ scanP3.fileLen := by decide

/-- Repair off, and repair on without a mismatch. -/
theorem witness_BlockV1IsExaminedAndReported :
    scanP1.busy = false ∧ scanP1.ws = .scanningV1 ∧ hP1.signature = 0xAA55#16 ∧ scanP1.re = false ∧
      (let x := examinedV1 hP1 { scanP1 with re := true }
       x.short = false ∧ x.crcbad = false) := by decide +kernel

theorem witness_BlockV2IsExaminedAndReported :
    scanP3.busy = false ∧ scanP3.ws = .scanningV2 ∧ hP3.signature = 0x5A#32 ∧ scanP3.re = false ∧
      (let x := examinedV2 hP3 { scanP3 with re := true }
       x.short = false ∧ x.crcbad = false ∧ x.hcsbad = false) := by decide +kernel

theorem witness_WalkStepExaminesOneBlock :
    scanP1.busy = false ∧ scanP1.ws = .scanningV1 ∧ scanP1.re = false ∧ hP1.signature = 0xAA55#16 ∧
      scanP1.cur + 20 ≤ scanP1.fileLen ∧ memRead scanP1.mem scanP1.cur 20 = encV1 hP1 ∧
      scanP3.busy = false ∧ scanP3.ws = .scanningV2 ∧ scanP3.re = false ∧ hP3.signature = 0x5A#32 ∧
      scanP3.cur + 24 ≤ scanP3.fileLen ∧ memRead scanP3.mem scanP3.cur 24 = encV2 hP3 := by
  decide +kernel

/-- A V1 block with a wrong CRC, a V2 block with a wrong header checksum, and a short V2 block under both policies. -/
theorem witness_RepairWritesTheCorrectedHeader :
    (scanP2.busy = false ∧ scanP2.ws = .scanningV1 ∧ hP2.signature = 0xAA55#16 ∧ scanP2.re = true ∧
        scanP2.writeAccess = true ∧ scanP2.answers = .ok :: [] ∧ scanP2.cur + 20 ≤ scanP2.fileLen ∧
        (examinedV1 hP2 scanP2).crcbad = true) ∧
      (scanRW4.busy = false ∧ scanRW4.ws = .scanningV2 ∧ hRW4.signature = 0x5A#32 ∧ scanRW4.re = true ∧
        scanRW4.writeAccess = true ∧ scanRW4.answers = .ok :: [] ∧ scanRW4.cur + 24 ≤ scanRW4.fileLen ∧
        (examinedV2 hRW4 scanRW4).hcsbad = true) ∧
      (∀ p ∈ [RepairLenPolicy.keepDeclared, .writeObserved],
        (scanP4 p).busy = false ∧ (scanP4 p).ws = .scanningV2 ∧ hP4.signature = 0x5A#32 ∧ (scanP4 p).re = true ∧
          (scanP4 p).writeAccess = true ∧ (scanP4 p).answers = .ok :: [.ok] ∧ (scanP4 p).cur + 24 ≤ (scanP4 p).fileLen ∧
          (examinedV2 hP4 (scanP4 p)).short = true) := by
  decide +kernel

/-- Without write access, and with a port that answers `FailWrite` (RW2). -/
theorem witness_FailedRepairIsFatal :
    ∃ (s x : State) (i : Instr) (o : PortAnswer) (stage : RepairStage) (rest : List PortAnswer),
      s.busy = false ∧ s.re = true ∧ s.cur + modeSize s.ws ≤ s.fileLen ∧
      (∃ h, i = .blockV1 h ∧ s.ws = .scanningV1 ∧ h.signature = 0xAA55#16 ∧ x = examinedV1 h s) ∧ x.crcbad = true ∧
      s.writeAccess = true ∧ s.answers = o :: rest ∧ o = .failWrite ∧ stage = .write ∧
      (let s' : State := { s with writeAccess := false }
       (examinedV1 hP2 s').crcbad = true) :=
  ⟨{ scanP2 with answers := [.failWrite] }, examinedV1 hP2 { scanP2 with answers := [.failWrite] }, .blockV1 hP2,
    .failWrite, .write, [], rfl, rfl, by decide +kernel, ⟨hP2, rfl, rfl, rfl, rfl⟩, by decide +kernel, rfl, rfl, rfl, rfl,
    by decide +kernel⟩

theorem witness_RewritePutsTheBufferIntoTheFile :
    let s : State := { onBuffer headP1 (onFile (headP2 ++ digits) idle) with answers := [.ok], hoff := 9 }
    s.busy = false ∧ s.ws = .idle ∧ s.hbn = 20#5 ∧ s.hb.length = 24 ∧ memWf s.mem = true ∧ s.answers = .ok :: [] ∧
      s.hoff + s.hbn.toNat = s.fileLen := by
  decide +kernel

/-- One byte past the end, and a failing port. -/
theorem witness_FailedRewriteIsFatal :
    (let s : State := { onBuffer headP1 (onFile (headP2 ++ digits) idle) with hoff := 10 }
     s.busy = false ∧ s.ws = .idle ∧ s.hbn = 20#5 ∧ s.fileLen < s.hoff + s.hbn.toNat) ∧
      (let s : State := { onBuffer headP1 (onFile (headP2 ++ digits) idle) with hoff := 9, answers := [.failSeekBack] }
       s.hoff + s.hbn.toNat ≤ s.fileLen ∧ s.answers = .failSeekBack :: []) := by
  decide +kernel

/-- RW4 by `WALK.STEP`; offset 4 of the header is outside the hypothesis, 3, 5 and 24 are inside. -/
theorem witness_RepairChangesOnlyCorrectableBytes :
    ∃ s t : State, s.busy = false ∧ scanAccepts s.ws = true ∧ memWf s.mem = true ∧ exec .walkStep s = .next t ∧
      t.ws ≠ .fatal ∧ s.mem ≠ t.mem ∧ correctable s.ws true 4 = true ∧ correctable s.ws true 3 = false ∧
      correctable s.ws true 5 = false ∧ correctable s.ws true 24 = false := by
  have h : leaves (exec .walkStep scanRW4) (fun t => decide (t.ws ≠ .fatal) && decide (scanRW4.mem ≠ t.mem)) = true := by
    decide +kernel
  obtain ⟨t, ht, hp⟩ := exists_of_leaves h
  simp only [Bool.and_eq_true, decide_eq_true_eq] at hp
  exact ⟨_, t, rfl, rfl, by decide +kernel, ht, hp.1, hp.2, rfl, rfl, rfl, rfl⟩

/-- P2 by `WALK.STEP` (V1: offsets 12 to 15 change), and P4 under `WriteObserved` (V2: offsets 16 to 19 as well). -/
theorem witness_RepairChangesOnlyCorrectableBytes_both :
    leaves (exec .walkStep scanP2)
        (fun t => t.ws != .fatal && t.mem != scanP2.mem && memWf scanP2.mem && !correctable .scanningV1 false 11 &&
          !correctable .scanningV1 false 16) = true ∧
      leaves (exec .walkStep (scanP4 .writeObserved))
        (fun t => t.ws != .fatal && t.short && memGet t.mem 16 == 6#8 && memWf (scanP4 .writeObserved).mem &&
          correctable .scanningV2 true 15 && !correctable .scanningV2 true 20) = true := by
  decide +kernel

/-- P4's short final block, examined twice: under `KeepDeclared` short again and written again, under `WriteObserved`
in order. -/
theorem witness_RepairedBlockNeedsNoRepair_short :
    ∀ p ∈ [RepairLenPolicy.keepDeclared, .writeObserved],
      (scanP4 p).wf = true ∧
        leaves (exec .walkStep (scanP4 p))
          (fun t => t.ws == .stoppedError && t.cause == .payloadShortfall &&
            leaves (exec .walkStep { t with cur := (scanP4 p).cur, ws := (scanP4 p).ws })
              (fun v => !v.crcbad && !v.hcsbad && (v.short == (p == .keepDeclared)) && v.mem == t.mem &&
                v.ws != .fatal)) = true := by
  decide +kernel

theorem witness_RepairedBlockNeedsNoRepair :
    ∃ s t u v : State, s.wf = true ∧ scanAccepts s.ws = true ∧ s.re = true ∧ exec .walkStep s = .next t ∧ t.ws = s.ws ∧
      u = { t with cur := s.cur, ws := s.ws } ∧ exec .walkStep u = .next v := by
  have h : leaves (exec .walkStep scanRW4)
      (fun t => decide (t.ws = scanRW4.ws) && leaves (exec .walkStep { t with cur := scanRW4.cur, ws := scanRW4.ws }) fun _ => true) = true := by
    decide +kernel
  obtain ⟨t, ht, hp⟩ := exists_of_leaves h
  simp only [Bool.and_eq_true, decide_eq_true_eq] at hp
  obtain ⟨v, hv, -⟩ := exists_of_leaves hp.2
  exact ⟨_, t, _, v, by decide +kernel, rfl, rfl, ht, hp.1, rfl, hv⟩

theorem witness_WalkRunEndsTheScan : ready.busy = false ∧ ready.ws = .idle ∧ ready.tv = true := by decide

theorem witness_WalkRunIsProbeThenSteps :
    ∃ s p : State, s.busy = false ∧ s.ws = .idle ∧ s.tv = true ∧ takeOverlapping s.inputs = (false, s.inputs) ∧
      exec .walkProbe s = .next p := by
  obtain ⟨t, ht, -⟩ := exists_of_leaves test_walkProbe_w6
  exact ⟨_, t, rfl, rfl, rfl, rfl, ht⟩

theorem witness_CursorAdvancesInsideTheFile :
    ∃ s t : State, s.busy = false ∧ scanAccepts s.ws = true ∧ s.cur ≤ s.fileLen ∧ exec .walkStep s = .next t ∧
      t.ws ≠ .fatal ∧ t.ws = s.ws := by
  have h : leaves (exec .walkStep scanP1) (fun t => decide (t.ws = scanP1.ws)) = true := by decide +kernel
  obtain ⟨t, ht, hp⟩ := exists_of_leaves h
  have hw : t.ws = .scanningV1 := of_decide_eq_true hp
  exact ⟨_, t, rfl, rfl, by decide +kernel, ht, by simp [hw], hw⟩

theorem witness_ModeNeverChangesInAScan :
    ∃ (i : Instr) (s t : State), scanAccepts s.ws = true ∧ exec i s = .next t := by
  obtain ⟨t, ht, -⟩ := exists_of_leaves test_walkStep_p1
  exact ⟨.walkStep, _, t, rfl, ht⟩

theorem witness_OnlyTheNamedOperationsWrite :
    ∃ (i : Instr) (s t : State), exec i s = .next t ∧ i ≠ .crcBuild ∧ i ≠ .walkProbe ∧ i ≠ .walkRun := by
  obtain ⟨t, ht, -⟩ := exists_of_leaves test_walkStep_p1
  exact ⟨.walkStep, _, t, ht, by decide, by decide, by decide⟩

theorem witness_FileChangesOnlyByRepair : ∃ (i : Instr) (s t : State), exec i s = .next t ∧ t.mem ≠ s.mem := by
  have h : leaves (exec .walkStep scanRW4) (fun t => decide (t.mem ≠ scanRW4.mem)) = true := by decide +kernel
  obtain ⟨t, ht, hp⟩ := exists_of_leaves h
  exact ⟨_, _, t, ht, by simpa using hp⟩

/-- An operation for each kind of end: the probe's two stops, a clean end, an incomplete header, a bad signature, a
shortfall, and a failed rewrite. -/
theorem witness_ReportLogOnlyGrows :
    leaves (exec .walkProbe ready) (fun t => t.ws == .stoppedError && t.cause == .probeUnreadable) = true ∧
      leaves (exec .walkProbe (onFile (List.replicate 24 0#8) ready))
        (fun t => t.ws == .stoppedError && t.cause == .probeUnrecognized) = true ∧
      leaves (exec .walkRun (onFile (headP1 ++ digits) ready))
        (fun t => t.ws == .stoppedClean && t.rpt.length == 2) = true ∧
      leaves (exec .walkStep { scanP1 with cur := 10 })
        (fun t => t.ws == .stoppedError && t.cause == .incompleteHeader) = true ∧
      leaves (exec .walkStep { scanP1 with cur := 9 }) (fun t => t.ws == .stoppedError && t.cause == .badSignature) = true ∧
      leaves (exec .walkStep (scanP4 .keepDeclared))
        (fun t => t.ws == .stoppedError && t.cause == .payloadShortfall && t.rpt.length == 1) = true ∧
      leaves (exec .rprRewrite (onBuffer headP1 idle)) (fun t => t.ws == .fatal && t.rpt.length == 1) = true := by
  decide +kernel

/-- A step that runs `WALK.STEP` on P1's block, from a state that meets every invariant. -/
theorem witness_StepKeepsTheInvariants :
    ∃ s t : State, s.wf = true ∧ s.tableOk ∧ s.endOk ∧ s.logOk ∧ step s = .next t ∧ t.ws = .scanningV1 := by
  have h : leaves (step { scanP1 with inputs := [.write 0 9 true] }) (fun t => decide (t.ws = .scanningV1)) = true := by
    decide +kernel
  obtain ⟨t, ht, hp⟩ := exists_of_leaves h
  refine ⟨_, t, by decide +kernel, ⟨fun _ => rfl, fun _ => ⟨rfl, by decide +kernel⟩⟩, ?_, ?_, ht, of_decide_eq_true hp⟩
  · exact ⟨(fun h => by cases h), (fun h => by cases h), (fun h => by cases h)⟩
  · have h0 : ∀ (t : HeaderTag), ∀ r ∈ ([] : List Record), r.ofFormat t := by simp
    exact ⟨(fun h => by cases h), fun _ => h0 .v1, fun _ => h0 .v2, Or.inl (h0 .v1), (fun _ o ho => by cases ho), .nil⟩

end Sys2Proof.Tests
end

section
/-! The frame of the operations, and what an accepted instruction can do, said once: a block's examination, the probe,
a scan, and every instruction of the table. -/

namespace Sys2Proof.Machine

/-! ### What an operation keeps -/

/-- The registers no block, probe step or unit operation writes: the table and `TV` (R29), `RE` (R31), `CFG` (R38), the
length of the file (R66), the host's grant and the parameters (R7). An operation that writes one of them keeps the
setup of the state with that register written. -/
structure KeepsSetup (s t : State) : Prop where
  table : t.table = s.table := by rfl
  tv : t.tv = s.tv := by rfl
  re : t.re = s.re := by rfl
  repairEn : t.repairEn = s.repairEn := by rfl
  fileLen : t.fileLen = s.fileLen := by rfl
  writeAccess : t.writeAccess = s.writeAccess := by rfl
  params : t.params = s.params := by rfl

theorem KeepsSetup.refl (s : State) : KeepsSetup s s := {}

theorem KeepsSetup.trans {s t u : State} (h : KeepsSetup s t) (k : KeepsSetup t u) : KeepsSetup s u :=
  ⟨k.table.trans h.table, k.tv.trans h.tv, k.re.trans h.re, k.repairEn.trans h.repairEn, k.fileLen.trans h.fileLen,
    k.writeAccess.trans h.writeAccess, k.params.trans h.params⟩

/-- The walker's own registers that a unit operation and a refusal leave: its state, `EXIT` and the log. -/
structure KeepsWalker (s t : State) : Prop where
  ws : t.ws = s.ws := by rfl
  exitCode : t.exitCode = s.exitCode := by rfl
  rpt : t.rpt = s.rpt := by rfl

/-- A unit operation of the checksum units and the header decoder keeps the setup, the walker and the cause. -/
structure UnitKeeps (s t : State) : Prop extends KeepsSetup s t, KeepsWalker s t where
  cause : t.cause = s.cause := by rfl

/-! ### Flows -/

/-- A flow that goes on leaves a state with `P`, one that has ended leaves a state with `Q`. -/
def Flow.Leads (P Q : State → Prop) : Flow → Prop
  | .goes s => P s
  | .ended s => Q s

theorem Flow.Leads.goes {P Q : State → Prop} {s : State} (h : P s) : (Flow.goes s).Leads P Q := h

theorem Flow.Leads.ended {P Q : State → Prop} {s : State} (h : Q s) : (Flow.ended s).Leads P Q := h

theorem Flow.Leads.andThen {P P' Q : State → Prop} {x : Flow} {f : State → Flow} (hx : x.Leads P Q)
    (hf : ∀ s, P s → (f s).Leads P' Q) : (x.andThen f).Leads P' Q := by
  cases x with
  | goes s => exact hf s hx
  | ended s => exact hx

theorem Flow.Leads.mono {P P' Q Q' : State → Prop} {x : Flow} (hx : x.Leads P Q) (hP : ∀ s, P s → P' s)
    (hQ : ∀ s, Q s → Q' s) : x.Leads P' Q' := by
  cases x with
  | goes s => exact hP s hx
  | ended s => exact hQ s hx

/-- What holds however the flow ends holds of the state it leaves. -/
theorem Flow.Leads.state {P Q R : State → Prop} {x : Flow} (hx : x.Leads P Q) (hP : ∀ s, P s → R s)
    (hQ : ∀ s, Q s → R s) : R x.state := by
  cases x with
  | goes s => exact hP s hx
  | ended s => exact hQ s hx

/-- The induction of `WALK.RUN` (R230): what every `WALK.STEP` keeps holds after the loop. -/
theorem scanLoop_leads {P Q : State → Prop} (hstep : ∀ s, P s → (walkStepRule s).Leads P Q) (n : Nat) :
    ∀ s, P s → (scanLoop n s).Leads P Q := by
  induction n with
  | zero => exact fun s hs => hs
  | succ n ih => exact fun s hs => (hstep s hs).andThen ih

theorem walkRunRule_leads {P Q : State → Prop} {s : State} (hprobe : (walkProbeRule s).Leads P Q)
    (hstep : ∀ s, P s → (walkStepRule s).Leads P Q) : (walkRunRule s).Leads P Q :=
  hprobe.andThen fun t ht => scanLoop_leads hstep (scanBound t) t ht

/-! ### One block -/

/-- The examination of one block whose header read returned `B` (R214): S1, the cursor's advance, S2 to S10. -/
def examineAt (B : List Byte) (s : State) : Flow := examine B { recordOffset s with cur := s.cur + B.length }

theorem walkStepRule_eq (s : State) :
    walkStepRule s = examineAt (streamBytes s.mem s.fileLen s.cur (modeSize s.ws)) s := rfl

theorem blockRule_eq (w : List Byte) (s : State) : blockRule w s = examineAt (headerReadOver w s) s := rfl

/-- The format of the blocks of a scan (R217). -/
def modeTag : WalkState → HeaderTag
  | .scanningV1 => .v1
  | .scanningV2 => .v2
  | .idle => .none
  | .stoppedClean => .none
  | .stoppedError => .none
  | .fatal => .none

/-- A header whose signature is right has the format of the mode. -/
theorem decodeByMode_tag {s : State} (h : signatureOk (decodeByMode s) = true) :
    (decodeByMode s).tag = modeTag s.ws := by
  cases hw : s.ws with
  | scanningV1 =>
    cases hd : decV1 (s.hb.take sizeV1) with
    | none => simp [decodeByMode, hw, hd, DecodedHeader.ofV1, signatureOk] at h
    | some d => simp [decodeByMode, hw, hd, DecodedHeader.ofV1, DecodedHeader.tag, modeTag]
  | scanningV2 =>
    cases hd : decV2 (s.hb.take sizeV2) with
    | none => simp [decodeByMode, hw, hd, DecodedHeader.ofV2, signatureOk] at h
    | some d => simp [decodeByMode, hw, hd, DecodedHeader.ofV2, DecodedHeader.tag, modeTag]
  | _ => simp [decodeByMode, hw, signatureOk] at h

/-- What a block leaves where its header read stops the scan (S1 to S3): nothing is logged yet. -/
structure HeaderRead (B : List Byte) (s t : State) : Prop extends KeepsSetup s t where
  ws : t.ws = s.ws := by rfl
  hoff : t.hoff = s.cur := by rfl
  cur : t.cur = s.cur + B.length := by rfl
  rpt : t.rpt = s.rpt := by rfl

/-- What a block leaves once it is examined and reported, whether or not it was repaired (S1 to S9): its record shows
the mode's format, the block's offset and the shortfall; the cursor stands behind the header read and the payload. -/
structure BlockExamined (B : List Byte) (s t : State) : Prop extends KeepsSetup s t where
  ws : t.ws = s.ws
  hoff : t.hoff = s.cur
  whole : modeSize s.ws ≤ B.length
  cur : t.cur = s.cur + B.length + t.cnt.toNat
  inside : s.cur + B.length ≤ s.fileLen → t.cur ≤ s.fileLen
  logged : ∃ b : BlockRecord, t.rpt = s.rpt ++ [.block b] ∧ b.format = modeTag s.ws ∧ b.headerOffset = s.cur ∧
    b.shortfall = t.short

/-- The ends of a block's examination (R216, R218, R224, R263). -/
inductive BlockFlow (B : List Byte) (s : State) : Flow → Prop where
  | cleanEnd (t : State) : HeaderRead B s t → BlockFlow B s (.ended (stopClean (emit (.cleanEnd t.hoff) t)))
  | incomplete (t : State) (k : Nat) : HeaderRead B s t →
      BlockFlow B s (.ended (stopError .incompleteHeader (emit (.incompleteHeader t.hoff k) t)))
  | badSignature (t : State) : HeaderRead B s t →
      BlockFlow B s (.ended (stopError .badSignature (emit (.badSignature t.hoff t.dh.signature t.dh) t)))
  | repairFailed (t : State) (stage : RepairStage) : BlockExamined B s t →
      BlockFlow B s (.ended (raiseFatal (emit (.repairFatal t.hoff stage) t)))
  | shortfall (t : State) : BlockExamined B s t → t.short = true →
      BlockFlow B s (.ended (stopError .payloadShortfall t))
  | goesOn (t : State) : BlockExamined B s t → t.short = false → BlockFlow B s (.goes t)

/-- A CRC run moves the cursor by the bytes it counts, and not out of the file. -/
theorem crcRun_cursor (s : State) :
    (crcRun s).cur = s.cur + (crcRun s).cnt.toNat ∧ (s.cur ≤ s.fileLen → (crcRun s).cur ≤ s.fileLen) := by
  have hle := streamCount_le s.fileLen s.cur s.maxb.toNat
  have hlt := s.maxb.isLt
  rw [crcRun_eq]
  refine ⟨?_, fun h => streamCount_inside h _⟩
  simp only [BitVec.toNat_ofNat]
  rw [Nat.mod_eq_of_lt (by omega)]

/-- S5 keeps the decoded header and what the header read left (R219). -/
theorem checkHeaderChecksum_read {B : List Byte} {s t : State} (ht : HeaderRead B s t) :
    HeaderRead B s (checkHeaderChecksum t) ∧ (checkHeaderChecksum t).dh = t.dh := by
  obtain ⟨res, dat, out, bad, hc⟩ := checkHeaderChecksum_eq t
  rw [hc]
  exact ⟨{ ht with },
    rfl⟩

/-- S5 to S8 on a decoded header (R225): the block is counted and reported. -/
theorem examineBlock_examined {B : List Byte} {s t : State} (ht : HeaderRead B s t) (hB : modeSize s.ws ≤ B.length)
    (htag : t.dh.tag = modeTag s.ws) : BlockExamined B s (examineBlock t) := by
  obtain ⟨hc, hdh⟩ := checkHeaderChecksum_read ht
  rw [← hdh] at htag
  unfold examineBlock
  generalize checkHeaderChecksum t = c at hc htag
  obtain ⟨hcur, hin⟩ := crcRun_cursor { c with maxb := c.dh.declaredDataLength }
  exact {
    toKeepsSetup := hc.toKeepsSetup.trans {}
    ws := hc.ws
    hoff := hc.hoff
    whole := hB
    cur := by rw [← hc.cur]; exact hcur
    inside := by rw [← hc.cur, ← hc.fileLen]; exact hin
    logged := ⟨blockRecord (compareCrc (checkPayload c)), by simp [hc.rpt], by simpa [blockRecord] using htag, by
      simpa [blockRecord] using hc.hoff, rfl⟩ }

/-- Correcting the header and asking the storage port touch nothing of what the examination left. -/
theorem BlockExamined.of_repair {B : List Byte} {s x : State} (hx : BlockExamined B s x) (dh hb res dat out saved ans d)
    (mem : List Host.Cell) :
    BlockExamined B s { x with dh := dh, hb := hb, res := res, dat := dat, hcsout := out, saved := saved,
                               answers := ans, draws := d, mem := mem } :=
  { hx with }

/-- S9 on an examined block (R223, R263). -/
theorem repairBlock_examined {B : List Byte} {s x : State} (hx : BlockExamined B s x) :
    (∃ t, BlockExamined B s t ∧ repairBlock x = .goes t) ∨
      ∃ t stage, BlockExamined B s t ∧
        repairBlock x = .ended (raiseFatal (emit (.repairFatal t.hoff stage) t)) := by
  rcases repairBlock_cases x with ⟨-, hgo⟩ | ⟨-, hwrite⟩
  · exact Or.inl ⟨x, hx, hgo⟩
  · obtain ⟨dh, hb, res, dat, out, hcorr⟩ := correctHeader_eq x
    obtain ⟨ans, d, ⟨-, -, hgo⟩ | ⟨stage, hend⟩⟩ :=
      rewriteHeader_cases (correctHeader x).writeAccess (modeSize (correctHeader x).ws) (correctHeader x)
    · refine Or.inl ⟨_, ?_, hwrite.trans hgo⟩
      rw [hcorr]
      exact hx.of_repair ..
    · refine Or.inr ⟨{ correctHeader x with saved := (correctHeader x).cur, answers := ans, draws := d }, stage, ?_,
        hwrite.trans hend⟩
      rw [hcorr]
      exact hx.of_repair ..

/-- S9 and S10 on an examined block (R223, R224). -/
theorem repairAndContinue_flow {B : List Byte} {s x : State} (hx : BlockExamined B s x) :
    BlockFlow B s ((repairBlock x).andThen continueOrStop) := by
  rcases repairBlock_examined hx with ⟨t, ht, hgo⟩ | ⟨t, stage, ht, hend⟩
  · rw [hgo, Flow.andThen_goes]
    rcases continueOrStop_cases t with ⟨hshort, hstop⟩ | ⟨hshort, hon⟩
    · rw [hstop]; exact .shortfall t ht hshort
    · rw [hon]; exact .goesOn t ht hshort
  · rw [hend, Flow.andThen_ended]; exact .repairFailed t stage ht

/-- S3 to S10 on a loaded header (R217 to R224). -/
theorem decodeAndExamine_flow {B : List Byte} {s x : State} (hx : HeaderRead B s x) (hB : modeSize s.ws ≤ B.length) :
    BlockFlow B s (((decodeAndCheck x).andThen fun t => repairBlock (examineBlock t)).andThen continueOrStop) := by
  have hdec : ∀ ok, HeaderRead B s { x with dh := decodeByMode x, incomplete := false, sigok := ok } :=
    fun ok => { hx with }
  rcases decodeAndCheck_cases x with ⟨hsig, hgo⟩ | ⟨-, hend⟩
  · rw [hgo, Flow.andThen_goes]
    have htag := decodeByMode_tag hsig
    rw [hx.ws] at htag
    exact repairAndContinue_flow (examineBlock_examined (hdec true) hB htag)
  · rw [hend, Flow.andThen_ended, Flow.andThen_ended]
    exact .badSignature _ (hdec false)

/-- What the examination of one block can do (R214). -/
theorem examineAt_flow (B : List Byte) (s : State) : BlockFlow B s (examineAt B s) := by
  unfold examineAt
  have hread : HeaderRead B s (loadHb B { recordOffset s with cur := s.cur + B.length }) :=
    {}
  have hmode : ({ recordOffset s with cur := s.cur + B.length } : State).ws = s.ws := rfl
  generalize ({ recordOffset s with cur := s.cur + B.length } : State) = x at hread hmode
  unfold examine
  rw [hmode]
  rcases loadHeader_cases (modeSize s.ws) B x with ⟨-, h⟩ | ⟨-, -, h⟩ | ⟨-, hB, h⟩ <;> rw [h]
  · exact .cleanEnd _ hread
  · exact .incomplete { loadHb B x with incomplete := true } B.length { hread with }
  · exact decodeAndExamine_flow hread hB

end Sys2Proof.Machine
end

section
/-! The ways every instruction can go, and what a step of the machine can do: one inversion lemma each, from which the
rules over all instructions follow. -/

namespace Sys2Proof.Machine

/-! ### The probe and the unit operations -/

/-- The ends of the probe (R212). -/
inductive ProbeFlow (s : State) : Flow → Prop where
  | unreadable (k : Nat) :
      ProbeFlow s
        (.ended (stopError .probeUnreadable (emit (.probeUnreadable s.cur k) { s with re := s.repairEn })))
  | unrecognized (x : Word) :
      ProbeFlow s
        (.ended (stopError .probeUnrecognized (emit (.probeUnrecognized s.cur x) { s with re := s.repairEn })))
  | starts (ws : WalkState) : scanAccepts ws = true → s.cur < s.fileLen →
      ProbeFlow s (.goes { s with re := s.repairEn, ws := ws })

/-- What the probe can do (R212). -/
theorem walkProbeRule_flow (s : State) : ProbeFlow s (walkProbeRule s) := by
  rcases walkProbeRule_cases s with ⟨c, r, -, -, hend⟩ | ⟨ws, hws, hcur, hgo⟩
  · simp only [walkProbeRule] at hend ⊢
    split_ifs at hend ⊢
    · exact .unreadable _
    · exact .unrecognized _
  · rw [hgo]
    exact .starts ws (by rcases hws with rfl | rfl <;> rfl) hcur

/-- What a rewrite the host asks for can do (R264): the write, or a failed stage, which is recorded and fatal. -/
theorem rprRewriteRule_cases (s : State) :
    (∃ t, UnitKeeps s t ∧ rprRewriteRule s = .goes t) ∨
      ∃ t stage, UnitKeeps s t ∧ rprRewriteRule s = .ended (raiseFatal (emit (.repairFatal t.hoff stage) t)) := by
  obtain ⟨ans, d, ⟨-, -, hgo⟩ | ⟨stage, hend⟩⟩ := rewriteHeader_cases true s.hbn.toNat s
  · exact Or.inl ⟨{ s with
      saved := s.cur, answers := ans, draws := d, mem := memWrite s.mem s.hoff (s.hb.take s.hbn.toNat) }, {}, hgo⟩
  · exact Or.inr ⟨{ s with saved := s.cur, answers := ans, draws := d }, stage, {}, hend⟩

/-! ### Every instruction -/

/-- The ways the rule of an instruction can go, from the state acceptance leaves (R107, R325). A block's header read has
at most the bytes of a header; where the instruction is named by a code, they lie in the file (log 15). -/
inductive Runs (s : State) : Instr → Flow → Prop where
  | build : unitAccepts s.ws = true → Runs s .crcBuild (.goes { s with table := builtTable, tv := true })
  | unit (i : Instr) (t : State) : unitAccepts s.ws = true → UnitKeeps s t → Runs s i (.goes t)
  | rewriteFailed (t : State) (stage : RepairStage) : unitAccepts s.ws = true → UnitKeeps s t →
      Runs s .rprRewrite (.ended (raiseFatal (emit (.repairFatal t.hoff stage) t)))
  | probe : s.ws = .idle → s.tv = true → Runs s .walkProbe (walkProbeRule s)
  | run : s.ws = .idle → s.tv = true → Runs s .walkRun (walkRunRule s)
  | block (i : Instr) (B : List Byte) : scanAccepts s.ws = true → B.length ≤ modeSize s.ws →
      ((∃ c, decodeCode c = i) → s.cur ≤ s.fileLen → s.cur + B.length ≤ s.fileLen) → Runs s i (examineAt B s)

/-- No code names a block (R105). -/
theorem decodeCode_ne_block (c : BitVec 4) :
    (∀ h, decodeCode c ≠ .blockV1 h) ∧ ∀ h, decodeCode c ≠ .blockV2 h := by
  unfold decodeCode
  split <;> exact ⟨nofun, nofun⟩

theorem startAccepts_eq_true {ws : WalkState} : startAccepts ws = true ↔ ws = .idle := by
  cases ws <;> decide

theorem needsTable_eq_none {s : State} : needsTable s = none ↔ s.tv = true := by
  cases h : s.tv <;> simp [needsTable, h]

theorem headerReadOver_length_le (w : List Byte) (s : State) : (headerReadOver w s).length ≤ modeSize s.ws :=
  List.length_take_le ..

/-- What an instruction that is not reserved is as a command (R107, R289): the states that accept it, its own refusal
and its rule. -/
structure Operation where
  accepts : WalkState → Bool
  unready : State → Option Cause
  rule : State → Flow

/-- The operation of an instruction; the reserved codes have none (R106). -/
def operationOf : Instr → Option Operation
  | .blockV1 h => some ⟨scanAccepts, alwaysReady, blockRule (encV1 h)⟩
  | .blockV2 h => some ⟨scanAccepts, alwaysReady, blockRule (encV2 h)⟩
  | .crcBuild => some ⟨unitAccepts, alwaysReady, crcBuildRule⟩
  | .crcCompute => some ⟨unitAccepts, needsTable, crcComputeRule⟩
  | .hcsCompute => some ⟨unitAccepts, needsWholeV2, hcsComputeRule⟩
  | .hdrDec1 => some ⟨unitAccepts, alwaysReady, hdrDec1Rule⟩
  | .hdrDec2 => some ⟨unitAccepts, alwaysReady, hdrDec2Rule⟩
  | .hdrVsig => some ⟨unitAccepts, needsDecoded, hdrVsigRule⟩
  | .hdrEnc => some ⟨unitAccepts, needsDecoded, hdrEncRule⟩
  | .walkProbe => some ⟨startAccepts, needsTable, walkProbeRule⟩
  | .walkStep => some ⟨scanAccepts, alwaysReady, walkStepRule⟩
  | .walkRun => some ⟨startAccepts, needsTable, walkRunRule⟩
  | .rprRewrite => some ⟨unitAccepts, needsWholeHeader, rprRewriteRule⟩
  | .reserved0 => none
  | .reservedC => none
  | .reservedD => none
  | .reservedE => none
  | .reservedF => none

/-- Every instruction is the command of its operation, or a reserved code. -/
theorem exec_eq (i : Instr) (s : State) :
    exec i s = (operationOf i).elim (reservedCode s) fun o => command o.accepts o.unready o.rule s := by
  cases i <;> rfl

/-- The rule of an accepted operation goes one of the ways of `Runs`. -/
theorem operationOf_runs {i : Instr} {o : Operation} {s : State} (ho : operationOf i = some o)
    (ha : o.accepts s.ws = true) (hu : o.unready s = none) : Runs (accept s) i (o.rule (accept s)) := by
  cases i with
  | blockV1 w =>
    cases ho
    exact .block _ _ ha (headerReadOver_length_le _ _) fun ⟨c, hc⟩ => absurd hc ((decodeCode_ne_block c).1 w)
  | blockV2 w =>
    cases ho
    exact .block _ _ ha (headerReadOver_length_le _ _) fun ⟨c, hc⟩ => absurd hc ((decodeCode_ne_block c).2 w)
  | crcBuild => cases ho; exact .build ha
  | crcCompute => cases ho; exact .unit _ _ ha {}
  | hcsCompute => cases ho; exact .unit _ _ ha {}
  | hdrDec1 => cases ho; exact .unit _ _ ha {}
  | hdrDec2 => cases ho; exact .unit _ _ ha {}
  | hdrVsig => cases ho; exact .unit _ _ ha {}
  | hdrEnc => cases ho; exact .unit _ _ ha {}
  | walkProbe => cases ho; exact .probe (startAccepts_eq_true.1 ha) (needsTable_eq_none.1 hu)
  | walkStep =>
    cases ho
    refine .block _ _ ha ?_ fun _ hcur => ?_
    · rw [streamBytes_length]; exact streamCount_le ..
    · rw [streamBytes_length]; exact streamCount_inside hcur _
  | walkRun => cases ho; exact .run (startAccepts_eq_true.1 ha) (needsTable_eq_none.1 hu)
  | rprRewrite =>
    cases ho
    rcases rprRewriteRule_cases (accept s) with ⟨t, ht, hgo⟩ | ⟨t, stage, ht, hend⟩
    · show Runs _ _ (rprRewriteRule _)
      rw [hgo]; exact .unit _ t ha ht
    · show Runs _ _ (rprRewriteRule _)
      rw [hend]; exact .rewriteFailed t stage ha ht
  | _ => cases ho

theorem reservedCode_cases {s t : State} (h : reservedCode s = .next t) : ∃ c, t = refuse c s := by
  unfold reservedCode at h
  split_ifs at h <;> cases h <;> exact ⟨_, rfl⟩

/-- What every instruction can do: it is refused, or accepted and run to its end. -/
theorem exec_cases {i : Instr} {s t : State} (h : exec i s = .next t) :
    (∃ c, t = refuse c s) ∨ (s.busy = false ∧ ∃ f, Runs (accept s) i f ∧ t = release f.state) := by
  rw [exec_eq] at h
  cases ho : operationOf i with
  | none =>
    rw [ho] at h
    exact Or.inl (reservedCode_cases h)
  | some o =>
    rw [ho] at h
    rcases command_cases h with ⟨-, rfl⟩ | ⟨-, -, rfl⟩ | ⟨-, -, c, -, rfl⟩ | ⟨hb, ha, hu, rfl⟩
    · exact Or.inl ⟨_, rfl⟩
    · exact Or.inl ⟨_, rfl⟩
    · exact Or.inl ⟨_, rfl⟩
    · exact Or.inr ⟨hb, _, operationOf_runs ho ha hu, rfl⟩

/-- Every instruction answers with a next state. -/
theorem exec_next (i : Instr) (s : State) : ∃ t, exec i s = .next t := by
  rw [exec_eq]
  cases operationOf i with
  | none =>
    show ∃ t, reservedCode s = .next t
    unfold reservedCode
    split_ifs <;> exact ⟨_, rfl⟩
  | some o => exact command_next ..

/-- An accepted instruction runs its rule and ends. -/
theorem exec_accepted {i : Instr} {o : Operation} {s : State} (ho : operationOf i = some o) (hb : s.busy = false)
    (ha : o.accepts s.ws = true) (hu : o.unready s = none) :
    exec i s = .next (release (o.rule (accept s)).state) := by
  rw [exec_eq, ho]
  exact command_runs hb ha hu o.rule

/-- A core that is busy refuses every instruction (R37). -/
theorem exec_busy {s : State} (hb : s.busy = true) (i : Instr) : exec i s = .next (refuse .refBusy s) := by
  rw [exec_eq]
  cases operationOf i with
  | none => simp [reservedCode, hb]
  | some o => simp [command, hb]

/-! ### The step -/

/-- What a host write can do (R43): nothing, or, where it is accepted, the write of its register. -/
theorem hostWrite_cases (n v : Nat) (s : State) :
    hostWrite n v s = s ∨
      (s.busy = false ∧ unitAccepts s.ws = true ∧ hostWrite n v s = writeRegister n v s) := by
  unfold hostWrite
  split_ifs with h
  · simp only [Bool.and_eq_true, Bool.not_eq_true'] at h
    exact Or.inr ⟨h.1, h.2, rfl⟩
  · exact Or.inl rfl

theorem writeTag_eq (v : Nat) (s : State) : ∃ dh d, writeTag v s = { s with dh := dh, draws := d } := by
  unfold writeTag
  split <;> exact ⟨_, _, rfl⟩

/-- An accepted register write touches no register of the walker, the table or the file's length (R43). -/
theorem writeRegister_keeps (n v : Nat) (s : State) :
    UnitKeeps { s with repairEn := (writeRegister n v s).repairEn } (writeRegister n v s) := by
  unfold writeRegister
  cases hostReg n with
  | dhTag =>
    obtain ⟨dh, d, h⟩ := writeTag_eq v s
    simp only [h]
    exact {}
  | _ => exact {}

theorem unitAccepts_of_scanAccepts {ws : WalkState} (h : scanAccepts ws = true) : unitAccepts ws = false := by
  revert h; cases ws <;> decide

/-- With no input pending the core waits (R323). -/
theorem step_nil {s : State} (h : s.inputs = []) : step s = .next s := by simp [step, fetch, h]

/-- A write to `CMD` runs an instruction (R37). -/
theorem step_command {s : State} {v : Nat} {w : Bool} {rest : List HostInput} (h : s.inputs = .write 0 v w :: rest) :
    step s = exec (instrForCode (BitVec.ofNat 4 v) { s with inputs := rest }) { s with inputs := rest } := by
  simp [step, fetch, h, fetchInput]

/-- A write to another register is the host's write (R36). -/
theorem step_write {s : State} {n v : Nat} {w : Bool} {rest : List HostInput} (h : s.inputs = .write n v w :: rest)
    (hn : n ≠ 0) : step s = .next (hostWrite n v { s with inputs := rest }) := by
  simp [step, fetch, h, fetchInput, hn]

theorem step_attach {s : State} {B : List Byte} {rest : List HostInput} (h : s.inputs = .attach B :: rest) :
    step s = attachFile B { s with inputs := rest } := by
  simp [step, fetch, h, fetchInput]

theorem step_grant {s : State} {b : Bool} {rest : List HostInput} (h : s.inputs = .grant b :: rest) :
    step s = .next { s with inputs := rest, writeAccess := b } := by
  simp [step, fetch, h, fetchInput]

theorem step_portAnswer {s : State} {o : PortAnswer} {rest : List HostInput} (h : s.inputs = .portAnswer o :: rest) :
    step s = .next { s with inputs := rest, answers := s.answers ++ [o] } := by
  simp [step, fetch, h, fetchInput]

theorem step_reset {s : State} {rest : List HostInput} (h : s.inputs = .reset :: rest) :
    step s = .next (resetCore { s with inputs := rest }) := by
  simp [step, fetch, h, fetchInput]

/-- What a host input that is neither a command nor the reset step keeps: the walker, the cause and the table; in a scan
the cursor and the file's length too (R43, R327). -/
structure HostKeeps (s t : State) : Prop extends KeepsWalker s t where
  cause : t.cause = s.cause := by rfl
  table : t.table = s.table := by rfl
  tv : t.tv = s.tv := by rfl
  scan : scanAccepts s.ws = true → t.cur = s.cur ∧ t.fileLen = s.fileLen := by exact fun _ => ⟨rfl, rfl⟩

theorem hostWrite_keeps (n v : Nat) (s : State) : HostKeeps s (hostWrite n v s) := by
  rcases hostWrite_cases n v s with h | ⟨-, hunit, h⟩ <;> rw [h]
  · exact {}
  · have hk := writeRegister_keeps n v s
    exact { hk with scan := fun hscan => by simp [unitAccepts_of_scanAccepts hscan] at hunit }

theorem attachFile_keeps {B : List Byte} {s t : State} (h : attachFile B s = .next t) : HostKeeps s t := by
  unfold attachFile at h
  split_ifs at h with hscan
  cases h
  exact { scan := fun hs => absurd hs hscan }

/-- What a step can do: take a host input that keeps the walker, the reset step, or run an instruction. -/
theorem step_cases {s t : State} (h : step s = .next t) :
    HostKeeps s t ∨ (∃ rest, s.inputs = .reset :: rest ∧ t = resetCore { s with inputs := rest }) ∨
      ∃ v w rest, s.inputs = .write 0 v w :: rest ∧
        exec (instrForCode (BitVec.ofNat 4 v) { s with inputs := rest }) { s with inputs := rest } = .next t := by
  cases hin : s.inputs with
  | nil =>
    rw [step_nil hin] at h
    cases h
    exact Or.inl {}
  | cons x rest =>
    cases x with
    | write n v w =>
      by_cases hn : n = 0
      · subst hn
        exact Or.inr (Or.inr ⟨v, w, rest, rfl, (step_command hin).symm.trans h⟩)
      · rw [step_write hin hn] at h
        cases h
        exact Or.inl { hostWrite_keeps n v { s with inputs := rest } with }
    | attach B =>
      rw [step_attach hin] at h
      exact Or.inl { attachFile_keeps h with }
    | grant b =>
      rw [step_grant hin] at h
      cases h
      exact Or.inl {}
    | portAnswer o =>
      rw [step_portAnswer hin] at h
      cases h
      exact Or.inl {}
    | reset =>
      rw [step_reset hin] at h
      cases h
      exact Or.inr (Or.inl ⟨rest, rfl, rfl⟩)

/-! ### The instruction a code starts -/

/-- Where no block stands at the cursor a code starts its operation. -/
theorem instrForCode_of_none {s : State} (h : blockAtCursor s = none) (c : BitVec 4) :
    instrForCode c s = decodeCode c := by
  unfold instrForCode
  split
  · next hc => simp [h, hc]
  · rfl

/-- A code starts its operation, or, in a scan, the block whose whole header the file holds at the cursor (R90). -/
theorem instrForCode_cases (c : BitVec 4) (s : State) :
    instrForCode c s = decodeCode c ∨ s.cur + modeSize s.ws ≤ s.fileLen := by
  have whole : ∀ n, 0 < n → n ≤ streamCount s.fileLen s.cur n → s.cur + n ≤ s.fileLen := by
    intro n hn h
    rw [streamCount] at h
    split_ifs at h <;> omega
  cases hb : blockAtCursor s with
  | none => exact Or.inl (instrForCode_of_none hb c)
  | some i =>
    refine Or.inr ?_
    unfold blockAtCursor at hb
    split_ifs at hb
    cases hw : s.ws with
    | scanningV1 =>
      refine whole 20 (by decide) (Nat.le_of_not_lt fun hlt => ?_)
      simp [hw, decV1, sizeV1, hlt] at hb
    | scanningV2 =>
      refine whole 24 (by decide) (Nat.le_of_not_lt fun hlt => ?_)
      simp [hw, decV2, sizeV2, hlt] at hb
    | _ => simp [hw] at hb

/-- Outside a scan a code starts its operation. -/
theorem instrForCode_of_not_scan {s : State} (h : scanAccepts s.ws = false) (c : BitVec 4) :
    instrForCode c s = decodeCode c := by
  refine instrForCode_of_none ?_ c
  unfold blockAtCursor
  cases hw : s.ws <;> simp_all [scanAccepts]

end Sys2Proof.Machine
end

section
/-! The table and the cursor along every step (O55). -/

namespace Sys2Proof.Machine

/-! ### What the ends of a flow leave -/

/-- A block's examination keeps the setup; it ends outside a scan, or goes on with the block examined. -/
theorem BlockFlow.leads {B : List Byte} {s : State} {f : Flow} (h : BlockFlow B s f) :
    f.Leads (BlockExamined B s) fun t => KeepsSetup s t ∧ scanAccepts t.ws = false := by
  cases h with
  | cleanEnd t ht => exact ⟨{ ht with }, rfl⟩
  | incomplete t k ht => exact ⟨{ ht with }, rfl⟩
  | badSignature t ht => exact ⟨{ ht with }, rfl⟩
  | repairFailed t stage ht => exact ⟨{ ht with }, rfl⟩
  | shortfall t ht _ => exact ⟨{ ht with }, rfl⟩
  | goesOn t ht _ => exact ht

theorem ProbeFlow.leads {s : State} {f : Flow} (h : ProbeFlow s f) :
    f.Leads (fun t => KeepsSetup { s with re := s.repairEn } t ∧ scanAccepts t.ws = true ∧ t.cur < t.fileLen)
      fun t => KeepsSetup { s with re := s.repairEn } t ∧ scanAccepts t.ws = false := by
  cases h with
  | unreadable k => exact ⟨{}, rfl⟩
  | unrecognized x => exact ⟨{}, rfl⟩
  | starts ws hws hcur => exact ⟨{}, hws, hcur⟩

/-! ### The table -/

/-- Outside a scan `tableOk` speaks of the table and `TV` alone. -/
theorem State.tableOk.of_eq {s t : State} (h : s.tableOk) (htable : t.table = s.table) (htv : t.tv = s.tv)
    (hscan : scanAccepts t.ws = true → s.tv = true ∧ t.cur ≤ t.fileLen) : t.tableOk := by
  obtain ⟨hbuilt, -⟩ := h
  refine ⟨fun hv => htable.trans (hbuilt (htv ▸ hv)), fun hs => ?_⟩
  rw [htv]
  exact hscan hs

/-- A state that agrees on the table, and in a scan on the cursor and the file's length. -/
theorem State.tableOk.of_keeps {s t : State} (h : s.tableOk) (htable : t.table = s.table) (htv : t.tv = s.tv)
    (hws : t.ws = s.ws) (hcur : scanAccepts s.ws = true → t.cur = s.cur ∧ t.fileLen = s.fileLen) : t.tableOk := by
  refine h.of_eq htable htv fun hs => ?_
  rw [hws] at hs
  obtain ⟨hc, hl⟩ := hcur hs
  rw [hc, hl]
  exact h.2 hs

/-- A block that lies in the file keeps the table and leaves the cursor in the file. -/
theorem examineAt_tableOk {B : List Byte} {s : State} (h : s.tableOk) (hscan : scanAccepts s.ws = true)
    (hB : s.cur + B.length ≤ s.fileLen) :
    (examineAt B s).Leads (fun t => scanAccepts t.ws = true ∧ t.tableOk) State.tableOk := by
  refine (examineAt_flow B s).leads.mono (fun t ht => ?_) fun t ⟨ht, hend⟩ => ?_
  · refine ⟨by rw [ht.ws]; exact hscan, h.of_eq ht.table ht.tv fun _ => ⟨(h.2 hscan).1, ?_⟩⟩
    rw [ht.fileLen]
    exact ht.inside hB
  · exact h.of_eq ht.table ht.tv fun hs => absurd hs (by simp [hend])

theorem walkStepRule_tableOk {s : State} (hs : scanAccepts s.ws = true ∧ s.tableOk) :
    (walkStepRule s).Leads (fun t => scanAccepts t.ws = true ∧ t.tableOk) State.tableOk := by
  obtain ⟨hscan, h⟩ := hs
  rw [walkStepRule_eq]
  refine examineAt_tableOk h hscan ?_
  rw [streamBytes_length]
  exact streamCount_inside (h.2 hscan).2 _

theorem walkProbeRule_tableOk {s : State} (h : s.tableOk) (htv : s.tv = true) :
    (walkProbeRule s).Leads (fun t => scanAccepts t.ws = true ∧ t.tableOk) State.tableOk := by
  refine (walkProbeRule_flow s).leads.mono (fun t ⟨ht, hscan, hcur⟩ => ?_) fun t ⟨ht, hend⟩ => ?_
  · exact ⟨hscan, h.of_eq ht.table ht.tv fun _ => ⟨htv, hcur.le⟩⟩
  · exact h.of_eq ht.table ht.tv fun hs => absurd hs (by simp [hend])

/-- Every instruction keeps the table built, a block if its header lies in the file. -/
theorem Runs.tableOk {i : Instr} {s : State} {f : Flow} (hrun : Runs s i f) (h : s.tableOk)
    (hi : (∃ c, decodeCode c = i) ∨ s.cur + modeSize s.ws ≤ s.fileLen) : f.state.tableOk := by
  cases hrun with
  | build hunit => exact ⟨fun _ => rfl, fun hs => absurd (unitAccepts_of_scanAccepts hs) (by simp [hunit])⟩
  | unit _ t hunit ht =>
    exact h.of_keeps ht.table ht.tv ht.ws fun hs => absurd (unitAccepts_of_scanAccepts hs) (by simp [hunit])
  | rewriteFailed t stage _ ht => exact h.of_eq ht.table ht.tv nofun
  | probe _ htv => exact (walkProbeRule_tableOk h htv).state (fun _ ht => ht.2) fun _ ht => ht
  | run _ htv =>
    exact (walkRunRule_leads (walkProbeRule_tableOk h htv) fun _ => walkStepRule_tableOk).state (fun _ ht => ht.2)
      fun _ ht => ht
  | block _ B hscan hB hin =>
    refine (examineAt_tableOk h hscan ?_).state (fun _ ht => ht.2) fun _ ht => ht
    rcases hi with hcode | hfile
    · exact hin hcode (h.2 hscan).2
    · omega

theorem exec_tableOk {i : Instr} {s t : State} (he : exec i s = .next t) (h : s.tableOk)
    (hi : (∃ c, decodeCode c = i) ∨ s.cur + modeSize s.ws ≤ s.fileLen) : t.tableOk := by
  rcases exec_cases he with ⟨c, rfl⟩ | ⟨-, f, hrun, rfl⟩
  · exact h
  · exact hrun.tableOk (s := accept s) h hi

/-- Settles O55: a step is a host input, which keeps the table and, in a scan, the cursor; the reset step; or an
instruction, whose block, if it runs one, stands in the file. -/
theorem stepKeepsTheTableBuilt : Obligations.StepKeepsTheTableBuilt := by
  intro s t h hstep
  rcases step_cases hstep with hk | ⟨rest, -, rfl⟩ | ⟨v, w, rest, -, he⟩
  · exact h.of_keeps hk.table hk.tv hk.ws hk.scan
  · refine ⟨fun hv => ?_, nofun⟩
    simp only [resetCore_tv, resetCore_table] at hv ⊢
    simp [hv]
  · refine exec_tableOk he h ?_
    rcases instrForCode_cases (BitVec.ofNat 4 v) { s with inputs := rest } with hc | hfile
    · exact Or.inl ⟨_, hc.symm⟩
    · exact Or.inr hfile

end Sys2Proof.Machine
end

section
/-! Exit code, cause and log along every step (O56, O57). -/

namespace Sys2Proof.Machine

/-! ### Exit code and cause -/

/-- `endOk` looks at the cause in `StoppedError` and `Fatal` only, where a refusal keeps it (R42). -/
theorem State.endOk.of_keeps {s t : State} (h : s.endOk) (hws : t.ws = s.ws) (hexit : t.exitCode = s.exitCode)
    (hcause : causeIsKept s.ws = true → t.cause = s.cause) : t.endOk := by
  obtain ⟨hclean, herror, hfatal⟩ := h
  unfold State.endOk
  rw [hws, hexit]
  refine ⟨hclean, fun hw => ?_, fun hw => ?_⟩
  · rw [hcause (by rw [hw]; rfl)]
    exact herror hw
  · rw [hcause (by rw [hw]; rfl)]
    exact hfatal hw

theorem endOk_of_scan {s : State} (h : scanAccepts s.ws = true) : s.endOk := by
  refine ⟨fun hw => ?_, fun hw => ?_, fun hw => ?_⟩ <;> simp [hw, scanAccepts] at h

theorem endOk_stopClean (s : State) : (stopClean s).endOk := ⟨fun _ => rfl, nofun, nofun⟩

/-- The five causes of an error stop (R281). -/
theorem endOk_stopError {c : Cause} (s : State)
    (hc : c = .probeUnreadable ∨ c = .probeUnrecognized ∨ c = .incompleteHeader ∨ c = .badSignature ∨
      c = .payloadShortfall) : (stopError c s).endOk := ⟨nofun, fun _ => ⟨rfl, hc⟩, nofun⟩

theorem endOk_raiseFatal (s : State) : (raiseFatal s).endOk := ⟨nofun, nofun, fun _ => ⟨rfl, rfl⟩⟩

theorem endOk_refuse {s : State} (h : s.endOk) (c : Cause) : (refuse c s).endOk :=
  h.of_keeps rfl rfl fun hkept => by simp [hkept]

theorem endOk_accept {s : State} (h : s.endOk) : (accept s).endOk :=
  h.of_keeps rfl rfl fun hkept => by simp [accept, hkept]

theorem BlockFlow.endOk {B : List Byte} {s : State} {f : Flow} (hf : BlockFlow B s f)
    (hscan : scanAccepts s.ws = true) : f.Leads (fun t => scanAccepts t.ws = true) State.endOk := by
  cases hf with
  | cleanEnd t _ => exact endOk_stopClean _
  | incomplete t k _ => exact endOk_stopError _ (by simp)
  | badSignature t _ => exact endOk_stopError _ (by simp)
  | repairFailed t stage _ => exact endOk_raiseFatal _
  | shortfall t _ _ => exact endOk_stopError _ (by simp)
  | goesOn t ht _ =>
    show scanAccepts t.ws = true
    rw [ht.ws]
    exact hscan

theorem ProbeFlow.endOk {s : State} {f : Flow} (hf : ProbeFlow s f) :
    f.Leads (fun t => scanAccepts t.ws = true) State.endOk := by
  cases hf with
  | unreadable k => exact endOk_stopError _ (by simp)
  | unrecognized x => exact endOk_stopError _ (by simp)
  | starts ws hws _ => exact hws

theorem Runs.endOk {i : Instr} {s : State} {f : Flow} (hrun : Runs s i f) (h : s.endOk) : f.state.endOk := by
  have hgo : ∀ t : State, scanAccepts t.ws = true → t.endOk := fun _ => endOk_of_scan
  cases hrun with
  | build => exact h
  | unit _ t _ ht => exact h.of_keeps ht.ws ht.exitCode fun _ => ht.cause
  | rewriteFailed t stage => exact endOk_raiseFatal _
  | probe => exact (walkProbeRule_flow s).endOk.state hgo fun _ ht => ht
  | run =>
    have hloop := walkRunRule_leads (walkProbeRule_flow s).endOk fun t ht => (examineAt_flow _ t).endOk ht
    exact hloop.state hgo fun _ ht => ht
  | block _ B hscan => exact ((examineAt_flow B s).endOk hscan).state hgo fun _ ht => ht

/-- Settles O56: a stop and a fatal failure write exit code and cause together, and a refusal leaves them once the
walker has stopped with an error. -/
theorem stepKeepsExitAndCauseOfTheEnd : Obligations.StepKeepsExitAndCauseOfTheEnd := by
  intro s t h hstep
  rcases step_cases hstep with hk | ⟨rest, -, rfl⟩ | ⟨v, w, rest, -, he⟩
  · exact h.of_keeps hk.ws hk.exitCode fun _ => hk.cause
  · exact ⟨nofun, nofun, nofun⟩
  · have hu : State.endOk { s with inputs := rest } := h
    rcases exec_cases he with ⟨c, rfl⟩ | ⟨-, f, hrun, rfl⟩
    · exact endOk_refuse hu c
    · exact hrun.endOk (endOk_accept hu)

/-! ### The log in order -/

/-- A record that is no `Block` record. -/
def Record.noBlock (r : Record) : Prop := ∀ b, r ≠ .block b

theorem Record.noBlock.ofFormat {r : Record} (h : r.noBlock) (t : HeaderTag) : r.ofFormat t := by
  cases r with
  | block b => exact absurd rfl (h b)
  | _ => trivial

theorem blockOffsets_append (l m : List Record) : blockOffsets (l ++ m) = blockOffsets l ++ blockOffsets m := by
  induction l with
  | nil => rfl
  | cons r l ih => cases r <;> simp [blockOffsets, ih]

theorem Record.noBlock.blockOffsets_eq {r : Record} (h : r.noBlock) : blockOffsets [r] = [] := by
  cases r with
  | block b => exact absurd rfl (h b)
  | _ => rfl

/-- `logOk` looks at the walker's state, the log, and in a scan at the cursor. -/
theorem State.logOk.of_keeps {s t : State} (h : s.logOk) (hws : t.ws = s.ws) (hrpt : t.rpt = s.rpt)
    (hcur : scanAccepts s.ws = true → t.cur = s.cur) : t.logOk := by
  obtain ⟨hidle, hv1, hv2, hone, hbelow, hasc⟩ := h
  unfold State.logOk
  rw [hws, hrpt]
  exact ⟨hidle, hv1, hv2, hone, fun hs => by rw [hcur hs]; exact hbelow hs, hasc⟩

/-- An idle core with an empty log. -/
theorem logOk_of_idle {s : State} (hws : s.ws = .idle) (hrpt : s.rpt = []) : s.logOk := by
  unfold State.logOk
  rw [hws, hrpt]
  simp [scanAccepts, blockOffsets]

/-- In an end state a log that has one format and ascends is in order. -/
theorem logOk_of_ended {t : State} (hidle : t.ws ≠ .idle) (hscan : scanAccepts t.ws = false)
    (hone : (∀ r ∈ t.rpt, r.ofFormat .v1) ∨ ∀ r ∈ t.rpt, r.ofFormat .v2)
    (hasc : (blockOffsets t.rpt).Pairwise (· < ·)) : t.logOk :=
  ⟨fun hw => absurd hw hidle, fun hw => by simp [hw, scanAccepts] at hscan,
    fun hw => by simp [hw, scanAccepts] at hscan, hone, fun hs => by simp [hs] at hscan, hasc⟩

/-- The end of a scan keeps the log in order. -/
theorem State.logOk.of_ended {s t : State} (h : s.logOk) (hidle : t.ws ≠ .idle) (hscan : scanAccepts t.ws = false)
    (hrpt : t.rpt = s.rpt) : t.logOk := by
  obtain ⟨-, -, -, hone, -, hasc⟩ := h
  rw [← hrpt] at hone hasc
  exact logOk_of_ended hidle hscan hone hasc

/-- An end that adds a record of its own keeps the log in order. -/
theorem State.logOk.of_end {s t : State} {r : Record} (h : s.logOk) (hidle : t.ws ≠ .idle)
    (hscan : scanAccepts t.ws = false) (hrpt : t.rpt = s.rpt ++ [r]) (hr : r.noBlock) : t.logOk := by
  obtain ⟨-, -, -, hone, -, hasc⟩ := h
  refine logOk_of_ended hidle hscan ?_ (by simpa [hrpt, blockOffsets_append, hr.blockOffsets_eq] using hasc)
  have hadd : ∀ tag, (∀ x ∈ s.rpt, x.ofFormat tag) → ∀ x ∈ t.rpt, x.ofFormat tag := by
    intro tag hall x hx
    rw [hrpt, List.mem_append, List.mem_singleton] at hx
    rcases hx with hx | rfl
    · exact hall x hx
    · exact hr.ofFormat tag
  exact hone.imp (hadd .v1) (hadd .v2)

theorem scanAccepts_cases {ws : WalkState} (h : scanAccepts ws = true) :
    (ws = .scanningV1 ∧ modeTag ws = .v1) ∨ (ws = .scanningV2 ∧ modeTag ws = .v2) := by
  revert h; cases ws <;> decide

theorem modeSize_pos {ws : WalkState} (h : scanAccepts ws = true) : 0 < modeSize ws := by
  revert h; cases ws <;> decide

/-- In a scan `logOk` says: every `Block` record has the mode's format and lies below the cursor, and the offsets
ascend. -/
theorem logOk_iff_of_scan {s : State} (hscan : scanAccepts s.ws = true) :
    s.logOk ↔ (∀ r ∈ s.rpt, r.ofFormat (modeTag s.ws)) ∧ (∀ o ∈ blockOffsets s.rpt, o < s.cur) ∧
      (blockOffsets s.rpt).Pairwise (· < ·) := by
  unfold State.logOk
  rcases scanAccepts_cases hscan with ⟨hw, htag⟩ | ⟨hw, htag⟩ <;> rw [htag]
  · constructor
    · rintro ⟨-, hv1, -, -, hbelow, hasc⟩
      exact ⟨hv1 hw, hbelow hscan, hasc⟩
    · rintro ⟨hall, hbelow, hasc⟩
      exact ⟨by simp [hw], fun _ => hall, by simp [hw], Or.inl hall, fun _ => hbelow, hasc⟩
  · constructor
    · rintro ⟨-, -, hv2, -, hbelow, hasc⟩
      exact ⟨hv2 hw, hbelow hscan, hasc⟩
    · rintro ⟨hall, hbelow, hasc⟩
      exact ⟨by simp [hw], by simp [hw], fun _ => hall, Or.inr hall, fun _ => hbelow, hasc⟩

/-- An examined block is logged behind the others: its offset is the cursor before it. -/
theorem BlockExamined.logOk {B : List Byte} {s t : State} (ht : BlockExamined B s t) (hscan : scanAccepts s.ws = true)
    (h : s.logOk) : t.logOk := by
  obtain ⟨hall, hbelow, hasc⟩ := (logOk_iff_of_scan hscan).1 h
  obtain ⟨b, hrpt, hformat, hoff, -⟩ := ht.logged
  have hsize := modeSize_pos hscan
  have hmoved : s.cur < t.cur := by rw [ht.cur]; have := ht.whole; omega
  have hoffsets : blockOffsets t.rpt = blockOffsets s.rpt ++ [s.cur] := by
    rw [hrpt, blockOffsets_append, ← hoff]; rfl
  rw [logOk_iff_of_scan (by rw [ht.ws]; exact hscan), ht.ws, hoffsets, hrpt]
  refine ⟨fun r hr => ?_, fun o ho => ?_, ?_⟩
  · rw [List.mem_append, List.mem_singleton] at hr
    rcases hr with hr | rfl
    · exact hall r hr
    · exact hformat
  · rw [List.mem_append, List.mem_singleton] at ho
    rcases ho with ho | rfl
    · exact (hbelow o ho).trans hmoved
    · exact hmoved
  · rw [List.pairwise_append]
    exact ⟨hasc, List.pairwise_singleton _ _, fun o ho x hx => by rw [List.mem_singleton.1 hx]; exact hbelow o ho⟩

theorem HeaderRead.logOk_of_stop {B : List Byte} {s t u : State} {r : Record} (ht : HeaderRead B s t) (h : s.logOk)
    (hrpt : u.rpt = t.rpt ++ [r]) (hr : r.noBlock) (hidle : u.ws ≠ .idle) (hscan : scanAccepts u.ws = false) :
    u.logOk :=
  h.of_end hidle hscan (by rw [hrpt, ht.rpt]) hr

theorem BlockFlow.logOk {B : List Byte} {s : State} {f : Flow} (hf : BlockFlow B s f)
    (hs : scanAccepts s.ws = true ∧ s.logOk) :
    f.Leads (fun t => scanAccepts t.ws = true ∧ t.logOk) State.logOk := by
  obtain ⟨hscan, h⟩ := hs
  cases hf with
  | cleanEnd t ht => exact .ended (ht.logOk_of_stop h rfl (fun _ => by simp) (by simp) rfl)
  | incomplete t k ht => exact .ended (ht.logOk_of_stop h rfl (fun _ => by simp) (by simp) rfl)
  | badSignature t ht => exact .ended (ht.logOk_of_stop h rfl (fun _ => by simp) (by simp) rfl)
  | repairFailed t stage ht => exact .ended ((ht.logOk hscan h).of_end (by simp) rfl rfl fun _ => by simp)
  | shortfall t ht _ => exact .ended ((ht.logOk hscan h).of_ended (by simp) rfl rfl)
  | goesOn t ht _ => exact .goes ⟨by rw [ht.ws]; exact hscan, ht.logOk hscan h⟩

theorem ProbeFlow.logOk {s : State} {f : Flow} (hf : ProbeFlow s f) (hidle : s.ws = .idle) (h : s.logOk) :
    f.Leads (fun t => scanAccepts t.ws = true ∧ t.logOk) State.logOk := by
  cases hf with
  | unreadable k => exact .ended (h.of_end (by simp) rfl rfl fun _ => by simp)
  | unrecognized x => exact .ended (h.of_end (by simp) rfl rfl fun _ => by simp)
  | starts ws hws _ =>
    refine .goes ⟨hws, (logOk_iff_of_scan hws).2 ?_⟩
    simp [h.1 hidle, blockOffsets]

theorem Runs.logOk {i : Instr} {s : State} {f : Flow} (hrun : Runs s i f) (h : s.logOk) : f.state.logOk := by
  cases hrun with
  | build => exact h
  | unit _ t hunit ht =>
    exact h.of_keeps ht.ws ht.rpt fun hs => absurd (unitAccepts_of_scanAccepts hs) (by simp [hunit])
  | rewriteFailed t stage _ ht =>
    exact h.of_end (r := .repairFatal t.hoff stage) (by simp) rfl (by simp [ht.rpt]) fun _ => by simp
  | probe hidle => exact ((walkProbeRule_flow s).logOk hidle h).state (fun _ ht => ht.2) fun _ ht => ht
  | run hidle =>
    have hloop := walkRunRule_leads ((walkProbeRule_flow s).logOk hidle h) fun t ht => (examineAt_flow _ t).logOk ht
    exact hloop.state (fun _ ht => ht.2) fun _ ht => ht
  | block _ B hscan => exact ((examineAt_flow B s).logOk ⟨hscan, h⟩).state (fun _ ht => ht.2) fun _ ht => ht

/-- Settles O57: a block's offset is the cursor, which stands above every block before it. -/
theorem stepKeepsTheLogInOrder : Obligations.StepKeepsTheLogInOrder := by
  intro s t _ h hstep
  rcases step_cases hstep with hk | ⟨rest, -, rfl⟩ | ⟨v, w, rest, -, he⟩
  · exact h.of_keeps hk.ws hk.rpt fun hs => (hk.scan hs).1
  · exact logOk_of_idle rfl rfl
  · have hu : State.logOk { s with inputs := rest } := h
    rcases exec_cases he with ⟨c, rfl⟩ | ⟨-, f, hrun, rfl⟩
    · exact hu
    · exact hrun.logOk (s := accept _) hu

end Sys2Proof.Machine
end

section
/-! Rules over all instructions: who writes what, that every operation ends, the cursor of a scan, the end states (O2,
O4, O47, O49, O52). -/

namespace Sys2Proof.Machine

/-! ### Who writes what -/

/-- The setup after an instruction: `CRC.BUILD` writes the table and `TV`, the probe `RE`, nothing else any of it. -/
theorem Runs.keepsSetup {i : Instr} {s : State} {f : Flow} (hrun : Runs s i f) :
    KeepsSetup s f.state ∨
      (i = .crcBuild ∧ KeepsSetup { s with table := builtTable, tv := true } f.state) ∨
      ((i = .walkProbe ∨ i = .walkRun) ∧ KeepsSetup { s with re := s.repairEn } f.state) := by
  cases hrun with
  | build => exact Or.inr (Or.inl ⟨rfl, {}⟩)
  | unit _ t _ ht => exact Or.inl ht.toKeepsSetup
  | rewriteFailed t stage _ ht => exact Or.inl { ht with }
  | probe =>
    exact Or.inr (Or.inr ⟨Or.inl rfl, (walkProbeRule_flow s).leads.state (fun _ ht => ht.1) fun _ ht => ht.1⟩)
  | run =>
    have hprobe := (walkProbeRule_flow s).leads.mono (fun _ ht => ht.1) fun _ ht => ht.1
    have hstep : ∀ t, KeepsSetup { s with re := s.repairEn } t →
        (walkStepRule t).Leads (KeepsSetup { s with re := s.repairEn }) (KeepsSetup { s with re := s.repairEn }) :=
      fun t ht => (examineAt_flow _ t).leads.mono (fun _ hu => ht.trans hu.toKeepsSetup) fun _ hu => ht.trans hu.1
    exact Or.inr (Or.inr ⟨Or.inr rfl, (walkRunRule_leads hprobe hstep).state (fun _ ht => ht) fun _ ht => ht⟩)
  | block _ B => exact Or.inl ((examineAt_flow B s).leads.state (fun _ ht => ht.toKeepsSetup) fun _ ht => ht.1)

/-- Settles O49, from the setup each rule keeps. -/
theorem onlyTheNamedOperationsWrite : Obligations.OnlyTheNamedOperationsWrite := by
  intro i s t he
  rcases exec_cases he with ⟨c, rfl⟩ | ⟨-, f, hrun, rfl⟩
  · exact ⟨fun _ => ⟨rfl, rfl⟩, fun _ _ => rfl, rfl, rfl, rfl, rfl⟩
  · rcases hrun.keepsSetup with hk | ⟨rfl, hk⟩ | ⟨hi, hk⟩
    · exact ⟨fun _ => ⟨hk.table, hk.tv⟩, fun _ _ => hk.re, hk.repairEn, hk.fileLen, hk.writeAccess, hk.params⟩
    · exact ⟨fun hne => absurd rfl hne, fun _ _ => hk.re, hk.repairEn, hk.fileLen, hk.writeAccess, hk.params⟩
    · refine ⟨fun _ => ⟨hk.table, hk.tv⟩, fun hp hr => ?_, hk.repairEn, hk.fileLen, hk.writeAccess, hk.params⟩
      rcases hi with rfl | rfl <;> contradiction

/-! ### Every operation ends -/

/-- Settles O52: a refusal leaves `BUSY`, and only a core that is not busy accepts a command, whose end clears it. -/
theorem everyOperationEnds : Obligations.EveryOperationEnds := by
  intro i s
  obtain ⟨t, he⟩ := exec_next i s
  refine ⟨t, he, ?_⟩
  rcases exec_cases he with ⟨c, rfl⟩ | ⟨hb, f, -, rfl⟩
  · rfl
  · rw [release_busy, hb]

/-- Settles O4: each instruction is a command or a reserved code, and both test `BUSY` first. -/
theorem busyRefusesEveryCommand : Obligations.BusyRefusesEveryCommand := fun i _ hb => exec_busy hb i

/-! ### The cursor of a scan -/

/-- The cursor stands in the file, not below where it stood. -/
def CursorInside (s t : State) : Prop := s.cur ≤ t.cur ∧ t.cur ≤ s.fileLen

theorem HeaderRead.cursorInside {B : List Byte} {s t : State} (ht : HeaderRead B s t)
    (hin : s.cur + B.length ≤ s.fileLen) : CursorInside s t := by
  have hcur := ht.cur
  exact ⟨by omega, by omega⟩

theorem BlockExamined.cursorInside {B : List Byte} {s t : State} (ht : BlockExamined B s t)
    (hin : s.cur + B.length ≤ s.fileLen) : CursorInside s t := by
  have hcur := ht.cur
  exact ⟨by omega, ht.inside hin⟩

/-- A block that does not end `Fatal` leaves the cursor in the file (R24). -/
theorem BlockFlow.cursorInside {B : List Byte} {s : State} {f : Flow} (hf : BlockFlow B s f)
    (hin : s.cur + B.length ≤ s.fileLen) (hfatal : f.state.ws ≠ .fatal) : CursorInside s f.state := by
  cases hf with
  | cleanEnd t ht => exact ht.cursorInside hin
  | incomplete t k ht => exact ht.cursorInside hin
  | badSignature t ht => exact ht.cursorInside hin
  | repairFailed t stage _ => exact absurd rfl hfatal
  | shortfall t ht _ => exact ht.cursorInside hin
  | goesOn t ht _ => exact ht.cursorInside hin

/-- Where the scan goes on, the cursor has moved by the header and the payload (R23). -/
theorem BlockFlow.cursor_of_scan {B : List Byte} {s : State} {f : Flow} (hf : BlockFlow B s f)
    (hscan : scanAccepts f.state.ws = true) (hB : B.length ≤ modeSize s.ws) :
    f.state.cur = s.cur + modeSize s.ws + f.state.cnt.toNat := by
  cases f with
  | goes t =>
    have ht : BlockExamined B s t := hf.leads
    have hwhole := ht.whole
    have hcur := ht.cur
    show t.cur = s.cur + modeSize s.ws + t.cnt.toNat
    omega
  | ended t =>
    have ht : KeepsSetup s t ∧ scanAccepts t.ws = false := hf.leads
    exact absurd hscan (by simp [ht.2])

/-- Settles O47: a header stop leaves the cursor behind the bytes read, an examined block behind its payload too. -/
theorem cursorAdvancesInsideTheFile : Obligations.CursorAdvancesInsideTheFile := by
  intro s t hb hscan hcur he hfatal
  rw [exec_accepted (i := .walkStep) rfl hb hscan rfl] at he
  cases he
  have hin := streamCount_inside hcur (modeSize s.ws)
  have hle := streamCount_le s.fileLen s.cur (modeSize s.ws)
  rw [← streamBytes_length s.mem] at hin hle
  have hf := examineAt_flow (streamBytes s.mem s.fileLen s.cur (modeSize s.ws)) (accept s)
  have hlen : (walkStepRule (accept s)).state.fileLen = s.fileLen :=
    hf.leads.state (fun _ ht => ht.fileLen) fun _ ht => ht.1.fileLen
  obtain ⟨hlow, hhigh⟩ := hf.cursorInside hin hfatal
  refine ⟨hlow, hhigh, hlen, fun hw => ?_⟩
  have hmoved := hf.cursor_of_scan (by rw [← hscan]; exact congrArg scanAccepts hw) hle
  exact ⟨by rw [release_cur]; exact hmoved ▸ Nat.le_add_right .., hmoved⟩

/-! ### The end states -/

theorem decodeCode_eq_rprRewrite {c : BitVec 4} (h : decodeCode c = .rprRewrite) : c = 0xB#4 := by
  revert h; revert c; decide

/-- In an end state an instruction leaves the walker's state, but for an `RPR.REWRITE` whose write fails (log 22). -/
theorem exec_of_ended {i : Instr} {s t : State} (hend : s.ws = .stoppedClean ∨ s.ws = .stoppedError ∨ s.ws = .fatal)
    (he : exec i s = .next t) : t.ws = s.ws ∨ (i = .rprRewrite ∧ s.ws ≠ .fatal ∧ t.ws = .fatal) := by
  have hscan : scanAccepts s.ws = false := by rcases hend with h | h | h <;> rw [h] <;> rfl
  have hidle : s.ws ≠ .idle := by rcases hend with h | h | h <;> rw [h] <;> decide
  rcases exec_cases he with ⟨c, rfl⟩ | ⟨-, f, hrun, rfl⟩
  · exact Or.inl rfl
  · cases hrun with
    | build => exact Or.inl rfl
    | unit _ u _ hu => exact Or.inl hu.ws
    | rewriteFailed u stage hunit =>
      exact Or.inr ⟨rfl, fun hw => by simp [hw, unitAccepts] at hunit, rfl⟩
    | probe hw => exact absurd hw hidle
    | run hw => exact absurd hw hidle
    | block _ B hs => exact absurd hs (by simp [hscan])

/-- Settles O2: of the host's inputs the reset step and a command alone can write the walker's state, and in an end
state the one such command is `RPR.REWRITE`. -/
theorem endStatesAreLeftByResetOrAFailedRewrite : Obligations.EndStatesAreLeftByResetOrAFailedRewrite := by
  refine ⟨fun s t hend hstep => ?_, fun i s t => exec_of_ended, fun s rest hin => ⟨_, step_reset hin, rfl, rfl⟩⟩
  rcases step_cases hstep with hk | ⟨rest, hin, rfl⟩ | ⟨v, w, rest, hin, he⟩
  · exact Or.inl hk.ws
  · exact Or.inr (Or.inl ⟨⟨rest, hin⟩, rfl⟩)
  · have hscan : scanAccepts s.ws = false := by rcases hend with h | h | h <;> rw [h] <;> rfl
    rw [instrForCode_of_not_scan (s := { s with inputs := rest }) hscan] at he
    rcases exec_of_ended (s := { s with inputs := rest }) hend he with hw | ⟨hi, hne, hw⟩
    · exact Or.inl hw
    · exact Or.inr (Or.inr ⟨⟨v, w, rest, hin, decodeCode_eq_rprRewrite hi⟩, hne, hw⟩)

end Sys2Proof.Machine
end

section
/-! What an operation adds to the log (O51). -/

namespace Sys2Proof.Machine

/-! ### The log of an operation -/

/-- The records added, all of them `Block` records. -/
def AddsBlocks (s t : State) : Prop := ∃ pre, t.rpt = s.rpt ++ pre ∧ ∀ r ∈ pre, ∃ b, r = .block b

/-- The record that the end the walker is in calls for (R212, R216, R218, R224, R263). -/
structure EndRecord (t : State) (last : List Record) : Prop where
  clean : t.ws = .stoppedClean → last = [.cleanEnd t.hoff]
  error : t.ws = .stoppedError →
    (t.cause = .probeUnreadable ∧ ∃ k, last = [.probeUnreadable t.cur k]) ∨
      (t.cause = .probeUnrecognized ∧ ∃ x, last = [.probeUnrecognized t.cur x]) ∨
      (t.cause = .incompleteHeader ∧ ∃ k, last = [.incompleteHeader t.hoff k]) ∨
      (t.cause = .badSignature ∧ last = [.badSignature t.hoff t.dh.signature t.dh]) ∨
      (t.cause = .payloadShortfall ∧ ∃ b : BlockRecord, last = [.block b] ∧ b.shortfall = true ∧
        b.headerOffset = t.hoff)
  fatal : t.ws = .fatal → ∃ stage, last = [.repairFatal t.hoff stage]

/-- An operation that ends the scan, or is fatal: blocks, and behind them the record of the end. -/
def EndsLog (s t : State) : Prop :=
  (t.ws = .stoppedClean ∨ t.ws = .stoppedError ∨ t.ws = .fatal) ∧
    ∃ m last, AddsBlocks s m ∧ t.rpt = m.rpt ++ last ∧ EndRecord t last

theorem AddsBlocks.refl (s : State) : AddsBlocks s s := ⟨[], by simp, by simp⟩

theorem AddsBlocks.of_eq {s t : State} (h : t.rpt = s.rpt) : AddsBlocks s t := ⟨[], by simp [h], by simp⟩

theorem AddsBlocks.trans {s t u : State} (h : AddsBlocks s t) (k : AddsBlocks t u) : AddsBlocks s u := by
  obtain ⟨p, hp, hpb⟩ := h
  obtain ⟨q, hq, hqb⟩ := k
  refine ⟨p ++ q, by rw [hq, hp, List.append_assoc], fun r hr => ?_⟩
  exact (List.mem_append.1 hr).elim (hpb r) (hqb r)

theorem BlockExamined.addsBlocks {B : List Byte} {s t : State} (ht : BlockExamined B s t) : AddsBlocks s t := by
  obtain ⟨b, hrpt, -⟩ := ht.logged
  exact ⟨[.block b], hrpt, fun r hr => ⟨b, List.mem_singleton.1 hr⟩⟩

/-- Blocks logged before the end that follows. -/
theorem EndsLog.of_blocks {s t u : State} (h : AddsBlocks s t) (k : EndsLog t u) : EndsLog s u := by
  obtain ⟨hend, m, last, hm, hrpt, hlast⟩ := k
  exact ⟨hend, m, last, h.trans hm, hrpt, hlast⟩

/-- What a block's examination adds to the log: one `Block` record, or the record of the end, which after a shortfall is
the block's own. -/
theorem BlockFlow.log {B : List Byte} {s : State} {f : Flow} (hf : BlockFlow B s f) :
    f.Leads (fun t => t.ws = s.ws ∧ AddsBlocks s t) (EndsLog s) := by
  cases hf with
  | cleanEnd t ht =>
    exact .ended ⟨.inl rfl, t, [.cleanEnd t.hoff], .of_eq ht.rpt, rfl,
      { clean := fun _ => rfl, error := nofun, fatal := nofun }⟩
  | incomplete t k ht =>
    exact .ended ⟨.inr (.inl rfl), t, [.incompleteHeader t.hoff k], .of_eq ht.rpt, rfl,
      { clean := nofun, error := fun _ => .inr (.inr (.inl ⟨rfl, k, rfl⟩)), fatal := nofun }⟩
  | badSignature t ht =>
    exact .ended ⟨.inr (.inl rfl), t, [.badSignature t.hoff t.dh.signature t.dh], .of_eq ht.rpt, rfl,
      { clean := nofun, error := fun _ => .inr (.inr (.inr (.inl ⟨rfl, rfl⟩))), fatal := nofun }⟩
  | repairFailed t stage ht =>
    exact .ended ⟨.inr (.inr rfl), t, [.repairFatal t.hoff stage], ht.addsBlocks, rfl,
      { clean := nofun, error := nofun, fatal := fun _ => ⟨stage, rfl⟩ }⟩
  | shortfall t ht hshort =>
    obtain ⟨b, hrpt, -, hoff, hb⟩ := ht.logged
    exact .ended ⟨.inr (.inl rfl), s, [.block b], .refl s, hrpt,
      { clean := nofun
        error := fun _ => .inr (.inr (.inr (.inr ⟨rfl, b, rfl, hb.trans hshort, hoff.trans ht.hoff.symm⟩)))
        fatal := nofun }⟩
  | goesOn t ht _ => exact .goes ⟨ht.ws, ht.addsBlocks⟩

theorem ProbeFlow.log {s : State} {f : Flow} (hf : ProbeFlow s f) :
    f.Leads (fun t => scanAccepts t.ws = true ∧ AddsBlocks s t) (EndsLog s) := by
  cases hf with
  | unreadable k =>
    exact .ended ⟨.inr (.inl rfl), s, [.probeUnreadable s.cur k], .refl s, rfl,
      { clean := nofun, error := fun _ => .inl ⟨rfl, k, rfl⟩, fatal := nofun }⟩
  | unrecognized x =>
    exact .ended ⟨.inr (.inl rfl), s, [.probeUnrecognized s.cur x], .refl s, rfl,
      { clean := nofun, error := fun _ => .inr (.inl ⟨rfl, x, rfl⟩), fatal := nofun }⟩
  | starts ws hws _ => exact .goes ⟨hws, .of_eq rfl⟩

/-- What an operation that runs does to the log. -/
def LogGrows (s t : State) : Prop :=
  ((t.ws = s.ws ∨ scanAccepts t.ws = true) ∧ AddsBlocks s t) ∨ (t.ws ≠ s.ws ∧ EndsLog s t)

theorem EndsLog.logGrows_of_idle {s t : State} (h : EndsLog s t) (hidle : s.ws = .idle) : LogGrows s t :=
  Or.inr ⟨by rw [hidle]; rcases h.1 with hw | hw | hw <;> rw [hw] <;> decide, h⟩

theorem EndsLog.logGrows_of_scan {s t : State} (h : EndsLog s t) (hscan : scanAccepts s.ws = true) : LogGrows s t :=
  Or.inr ⟨fun hw => by rw [← hw] at hscan; rcases h.1 with h | h | h <;> simp [h, scanAccepts] at hscan, h⟩

theorem Runs.logGrows {i : Instr} {s : State} {f : Flow} (hrun : Runs s i f) : LogGrows s f.state := by
  cases hrun with
  | build => exact .inl ⟨.inl rfl, .of_eq rfl⟩
  | unit _ t _ ht => exact .inl ⟨.inl ht.ws, .of_eq ht.rpt⟩
  | rewriteFailed t stage hunit ht =>
    refine .inr ⟨fun hw => ?_, .inr (.inr rfl), t, [.repairFatal t.hoff stage], .of_eq ht.rpt, rfl,
      { clean := nofun, error := nofun, fatal := fun _ => ⟨stage, rfl⟩ }⟩
    rw [← hw] at hunit
    cases hunit
  | probe hidle =>
    exact (walkProbeRule_flow s).log.state (fun _ ht => .inl ⟨.inr ht.1, ht.2⟩) fun _ ht => ht.logGrows_of_idle hidle
  | run hidle =>
    have hstep : ∀ t, scanAccepts t.ws = true ∧ AddsBlocks s t →
        (walkStepRule t).Leads (fun u => scanAccepts u.ws = true ∧ AddsBlocks s u) (EndsLog s) :=
      fun t ⟨hscan, ht⟩ => (examineAt_flow _ t).log.mono
        (fun u hu => ⟨by rw [hu.1]; exact hscan, ht.trans hu.2⟩) fun u hu => hu.of_blocks ht
    have hloop := walkRunRule_leads (walkProbeRule_flow s).log hstep
    exact hloop.state (fun _ ht => .inl ⟨.inr ht.1, ht.2⟩) fun _ ht => ht.logGrows_of_idle hidle
  | block _ B hscan =>
    exact (examineAt_flow B s).log.state (fun _ ht => .inl ⟨.inl ht.1, ht.2⟩) fun _ ht =>
      ht.logGrows_of_scan hscan

theorem exec_logGrows {i : Instr} {s t : State} (he : exec i s = .next t) : LogGrows s t := by
  rcases exec_cases he with ⟨c, rfl⟩ | ⟨-, f, hrun, rfl⟩
  · exact .inl ⟨.inl rfl, .of_eq rfl⟩
  · exact hrun.logGrows.imp id fun ⟨hne, hend, m, last, hm, hrpt, hlast⟩ =>
      ⟨hne, hend, m, last, hm, hrpt, { hlast with }⟩

/-- Settles O51: the records of an operation are blocks and, where it ends the scan, the record of that end. -/
theorem reportLogOnlyGrows : Obligations.ReportLogOnlyGrows := by
  intro i s t he
  rcases exec_logGrows he with ⟨hws, pre, hrpt, hpre⟩ | ⟨hne, hend, m, last, ⟨pre, hm, hpre⟩, hrpt, hlast⟩
  · have hon : ∀ ws, scanAccepts ws = false → t.ws ≠ s.ws → t.ws = ws → False := by
      intro ws hscan hne hw
      rcases hws with h | h
      · exact hne h
      · rw [hw, hscan] at h
        cases h
    exact ⟨pre, [], by simpa using hrpt, hpre, fun _ => rfl, fun h hw => (hon _ rfl h hw).elim,
      fun h hw => (hon _ rfl h hw).elim, fun h hw => (hon _ rfl h hw).elim⟩
  · refine ⟨pre, last, by rw [hrpt, hm], hpre, fun h => ?_, fun _ => hlast.clean, fun _ => hlast.error,
      fun _ => hlast.fatal⟩
    rcases h with h | h
    · exact absurd h hne
    · rcases hend with hw | hw | hw <;> rw [hw] at h <;> cases h

end Sys2Proof.Machine
end

section
/-! Writes that meet a busy core, the other inputs, the status word (O6, O17, O18). -/

namespace Sys2Proof.Machine

/-! ### Writes that meet a busy core -/

theorem causeIsKept_eq_true {ws : WalkState} : causeIsKept ws = true ↔ ws = .stoppedError ∨ ws = .fatal := by
  cases ws <;> decide

/-- The writes that do not wait leave the queue, and one to `CMD` among them is seen (log 11). -/
theorem takeOverlapping_append {pre rest : List HostInput} (hpre : ∀ x ∈ pre, ∃ reg v, x = .write reg v false)
    (hrest : ∀ reg v tl, rest ≠ .write reg v false :: tl) :
    (takeOverlapping (pre ++ rest)).2 = rest ∧
      ((takeOverlapping (pre ++ rest)).1 = true ↔ ∃ v, HostInput.write 0 v false ∈ pre) := by
  induction pre with
  | nil => simp [takeOverlapping_of_none hrest]
  | cons x pre ih =>
    obtain ⟨hin, hcmd⟩ := ih fun y hy => hpre y (List.mem_cons_of_mem x hy)
    obtain ⟨reg, v, rfl⟩ := hpre x List.mem_cons_self
    refine ⟨hin, ?_⟩
    simp only [List.cons_append, takeOverlapping, Bool.or_eq_true, beq_iff_eq, hcmd, List.mem_cons]
    constructor
    · rintro (rfl | ⟨v', h⟩)
      · exact ⟨v, Or.inl rfl⟩
      · exact ⟨v', Or.inr h⟩
    · rintro ⟨v', h | h⟩
      · cases h
        exact Or.inl rfl
      · exact Or.inr ⟨v', h⟩

/-- Settles O6, from what the queue's front leaves. -/
theorem overlappingWritesMeetABusyCore : Obligations.OverlappingWritesMeetABusyCore := by
  intro s pre rest hpre hrest hin
  obtain ⟨hleft, hcmd⟩ := takeOverlapping_append hpre hrest
  rw [← hin] at hleft hcmd
  refine ⟨fun h => ?_, fun h => ?_⟩
  · have hkept : (!causeIsKept s.ws) = decide (¬ (s.ws = .stoppedError ∨ s.ws = .fatal)) := by
      rw [decide_not, ← Bool.decide_congr causeIsKept_eq_true, Bool.decide_eq_true]
    simp only [accept, hleft, hcmd.2 h, Bool.true_and, hkept, decide_eq_true_eq, ite_not]
  · have hnone : (takeOverlapping s.inputs).1 = false := by
      rw [Bool.eq_false_iff]
      exact fun ht => h (hcmd.1 ht)
    simp [accept, hleft, hnone]

/-! ### The other inputs -/

/-- A file reads back as the bytes the host attached. -/
theorem memRead_memFill (B : List Byte) : memRead (memFill (fun a => byteAt B a) B.length) 0 B.length = B := by
  refine List.ext_getElem (by simp) fun k _ hk => ?_
  simp [memRead, memGet_memFill, hk, byteAt]

/-- Settles O17, input by input. -/
theorem stepTakesTheHostsOtherInputs : Obligations.StepTakesTheHostsOtherInputs := by
  intro s
  refine ⟨step_nil, fun b rest => step_grant, fun o rest => step_portAnswer, fun B rest hin hscan => ?_,
    fun B rest hin hscan hlen => ?_, fun B rest hin hscan hlen => ?_, fun rest => step_reset,
    fun n v w rest hin hn => step_write hin hn⟩
  · simp [step_attach hin, attachFile, hscan]
  · exact ⟨_, by simp only [step_attach hin, attachFile, hscan, hlen, if_true]; rfl, rfl, memRead_memFill B, rfl⟩
  · simp [step_attach hin, attachFile, hscan, Nat.not_lt.2 hlen]

/-! ### The status word -/

/-- A flag placed in a word shows at its position alone. -/
theorem getLsbD_bitAt (pos : Nat) (b : Bool) (i : Nat) (hi : i < 32) :
    (bitAt pos b).getLsbD i = (decide (i = pos) && b) := by
  cases b
  · simp [bitAt]
  · rw [bitAt, if_pos rfl, BitVec.getLsbD_shiftLeft, BitVec.getLsbD_one]
    by_cases h : i = pos
    · subst h; simp [hi]
    · simp [hi, h]; omega

/-- A code placed in a word shows at its own bits alone. -/
theorem getLsbD_codeAt {n : Nat} (pos : Nat) (c : BitVec n) (i : Nat) (hi : i < 32) :
    (c.setWidth 32 <<< pos).getLsbD i = (decide (pos ≤ i) && c.getLsbD (i - pos)) := by
  rw [BitVec.getLsbD_shiftLeft, BitVec.getLsbD_setWidth]
  by_cases h : i < pos
  · simp [h, hi]
  · have : i - pos < 32 := by omega
    simp [h, hi, this, Nat.le_of_not_lt h]

/-- Bit by bit, `STATUS` is its fields at their places (R41). -/
theorem getLsbD_status (s : State) {i : Nat} (hi : i < 32) :
    s.status.getLsbD i =
      (decide (i = 0) && s.busy || decide (i = 1) && s.tv || decide (2 ≤ i) && s.ws.code.getLsbD (i - 2) ||
        decide (i = 5) && s.incomplete || decide (i = 6) && s.sigok || decide (i = 7) && s.short ||
        decide (i = 8) && s.crcbad || decide (i = 9) && s.hcsbad || decide (i = 10) && s.refused ||
        decide (i = 11) && s.exitCode || decide (12 ≤ i) && s.cause.code.getLsbD (i - 12)) := by
  simp only [State.status, BitVec.getLsbD_or, getLsbD_bitAt _ _ i hi, getLsbD_codeAt _ _ i hi]

/-- Settles O18: each bit of `STATUS` lies in one field. -/
theorem statusMirrorsTheFlags : Obligations.StatusMirrorsTheFlags := by
  intro s
  have hws : ∀ j, 3 ≤ j → s.ws.code.getLsbD j = false := fun j hj => BitVec.getLsbD_of_ge _ _ hj
  have hcause : ∀ j, 4 ≤ j → s.cause.code.getLsbD j = false := fun j hj => BitVec.getLsbD_of_ge _ _ hj
  refine ⟨?_, ?_, ?_, ?_, ?_, ?_, ?_, ?_, ?_, ?_, ?_, ?_⟩
  case refine_3 =>
    ext i hi
    rw [BitVec.getElem_extractLsb', getLsbD_status s (by omega), ← BitVec.getLsbD_eq_getElem]
    have h : i = 0 ∨ i = 1 ∨ i = 2 := by omega
    rcases h with rfl | rfl | rfl <;> simp
  case refine_11 =>
    ext i hi
    rw [BitVec.getElem_extractLsb', getLsbD_status s (by omega), ← BitVec.getLsbD_eq_getElem]
    have h : i = 0 ∨ i = 1 ∨ i = 2 ∨ i = 3 := by omega
    rcases h with rfl | rfl | rfl | rfl <;> simp
  case refine_12 =>
    ext i hi
    rw [BitVec.getElem_extractLsb', getLsbD_status s (by omega)]
    simp [hws (16 + i - 2) (by omega), hcause (16 + i - 12) (by omega)]
    omega
  all_goals rw [getLsbD_status s (by decide)]; simp

end Sys2Proof.Machine
end

section
/-! The host's registers, read and written (O19, O58, O59, O60). -/

namespace Sys2Proof.Machine

/-! ### Reading a register -/

/-- The numbers behind the header fields name table entries or nothing (R36). -/
theorem hostReg_above {n : Nat} (h : 0x3C ≤ n) : (∃ i, hostReg n = .table i) ∨ hostReg n = .unlisted := by
  by_cases ht : 0x100 ≤ n ∧ n < 0x200
  · obtain ⟨i, rfl⟩ : ∃ i, n = 0x100 + i := ⟨n - 0x100, by omega⟩
    exact Or.inl ⟨i, hostReg_table (by omega)⟩
  · exact Or.inr (hostReg_unlisted (by omega))

theorem readRegister_dhField (s : State) (f : HeaderField) {n : Nat} (hn : hostReg n = .dhField f) :
    s.readRegister n = some (readField s.dh f) := by
  simp [State.readRegister, hn]

theorem readRegister_dhTag (s : State) : s.readRegister 0x30 = some s.dh.tag.code.toNat := rfl

theorem readRegister_hb (s : State) {k : Nat} (hk : k < 24) :
    s.readRegister (0x10 + k) = some (s.hb.getD k 0#8).toNat := by
  simp [State.readRegister, hostReg_hb hk]

/-- The numbers from `0x31` to `0x3B` are the fields of the decoded header (R40). -/
theorem hostReg_dhField {n : Nat} (h1 : 0x31 ≤ n) (h2 : n ≤ 0x3B) : ∃ f, hostReg n = .dhField f := by
  interval_cases n <;> exact ⟨_, rfl⟩

theorem toNat_bitAt_zero (b : Bool) : (bitAt 0 b).toNat = if b then 1 else 0 := by
  cases b <;> rfl

/-- Settles O60, register by register. -/
theorem hostReadsGiveEveryRegister : Obligations.HostReadsGiveEveryRegister := by
  intro s
  refine ⟨rfl, rfl, congrArg some (toNat_bitAt_zero _), rfl, rfl, rfl, rfl, rfl, rfl, rfl, rfl, fun hlen => ?_,
    fun k b hk hb => ?_, fun hdh => ⟨?_, fun n h1 h2 => ?_⟩, fun h hdh => ?_, fun h hdh => ?_, fun i e hi he => ?_,
    fun n hn => ?_⟩
  · have hr : s.rptn.toNat = s.rpt.length := by
      rw [State.rptn, if_pos hlen, BitVec.toNat_ofNat, Nat.mod_eq_of_lt hlen]
    exact congrArg some hr
  · rw [readRegister_hb s hk, List.getD_eq_getElem?_getD, hb, Option.getD_some]
  · rw [readRegister_dhTag, hdh]
    rfl
  · obtain ⟨f, hf⟩ := hostReg_dhField h1 h2
    rw [readRegister_dhField s f hf, hdh]
    rfl
  · have hread := readRegister_dhField s
    rw [hdh] at hread
    refine ⟨?_, hread .signature rfl, hread .headerChecksum rfl, hread .blockType rfl, hread .unknown3 rfl,
      hread .reserved rfl, hread .hardwareRevision rfl, hread .firmwareVersion rfl, hread .declaredDataCrc32 rfl,
      hread .declaredDataLength rfl, hread .unknownField0x14 rfl, hread .deviceType rfl⟩
    rw [readRegister_dhTag, hdh]
    rfl
  · have hread := readRegister_dhField s
    rw [hdh] at hread
    refine ⟨?_, hread .signature rfl, hread .headerChecksum rfl, hread .blockType rfl, hread .unknown3 rfl,
      hread .reserved rfl, hread .hardwareRevision rfl, hread .firmwareVersion rfl, hread .declaredDataCrc32 rfl,
      hread .declaredDataLength rfl, hread .unknownField0x14 rfl, hread .deviceType rfl⟩
    rw [readRegister_dhTag, hdh]
    rfl
  · simp [State.readRegister, hostReg_table hi, List.getD_eq_getElem?_getD, he]
  · simp [State.readRegister, hostReg_unlisted hn]

/-! ### Writing a register -/

theorem unitAccepts_eq_true {ws : WalkState} :
    unitAccepts ws = true ↔ ws = .idle ∨ ws = .stoppedClean ∨ ws = .stoppedError := by
  cases ws <;> decide

/-- A step that takes an accepted write writes its register (R43). -/
theorem step_write_accepted {s : State} {n v : Nat} {w : Bool} {rest : List HostInput}
    (hin : s.inputs = .write n v w :: rest) (hb : s.busy = false)
    (hws : s.ws = .idle ∨ s.ws = .stoppedClean ∨ s.ws = .stoppedError) (hn : n ≠ 0) :
    step s = .next (writeRegister n v { s with inputs := rest }) := by
  rw [step_write hin hn, hostWrite_runs (s := { s with inputs := rest }) hb (unitAccepts_eq_true.2 hws)]

/-- Settles O19: a write is accepted only where the unit operations are, on a core that is not busy. -/
theorem hostWritesAreIgnoredDuringAScan : Obligations.HostWritesAreIgnoredDuringAScan := by
  intro s n v w rest hin hn hign
  rw [step_write hin hn]
  rcases hostWrite_cases n v { s with inputs := rest } with h | ⟨hb, hunit, -⟩
  · rw [h]
  · rcases hign with h | h | h | h
    · exact absurd hb (by simp [h])
    all_goals exact absurd hunit (by simp [h, unitAccepts])

/-- The read-only and the reserved numbers ignore a write (R36, R43). -/
theorem writeRegister_readOnly {n : Nat} (v : Nat) (s : State)
    (hn : n = 0x01 ∨ (0x06 ≤ n ∧ n ≤ 0x08) ∨ (0x0A ≤ n ∧ n ≤ 0x0F) ∨ (0x28 ≤ n ∧ n ≤ 0x2F) ∨ 0x3C ≤ n) :
    writeRegister n v s = s := by
  have hreg : hostReg n ∈ [HostReg.status, .crcout, .cnt, .hcsout, .crc, .rptn, .unlisted] ∨
      ∃ i, hostReg n = .table i := by
    rcases hn with rfl | ⟨h1, h2⟩ | ⟨h1, h2⟩ | ⟨h1, h2⟩ | h
    · exact Or.inl (by decide)
    · interval_cases n <;> exact Or.inl (by decide)
    · interval_cases n <;> exact Or.inl (by decide)
    · interval_cases n <;> exact Or.inl (by decide)
    · exact (hostReg_above h).elim Or.inr fun hu => Or.inl (by simp [hu])
  unfold writeRegister
  rcases hreg with hreg | ⟨i, hreg⟩
  · simp only [List.mem_cons, List.not_mem_nil, or_false] at hreg
    rcases hreg with h | h | h | h | h | h | h <;> rw [h]
  · rw [hreg]

theorem writeRegister_dhField {n : Nat} {f : HeaderField} (hn : hostReg n = .dhField f) (v : Nat) (s : State) :
    writeRegister n v s = { s with dh := writeField s.dh f v } := by
  simp [writeRegister, hn]

theorem writeRegister_hb {k : Nat} (hk : k < 24) (v : Nat) (s : State) :
    writeRegister (0x10 + k) v s = { s with hb := s.hb.set k (BitVec.ofNat 8 v) } := by
  simp [writeRegister, hostReg_hb hk]

/-- A write of `HBN` (R26, R43): at most 24 bytes count as valid, and they keep what they held (log 9). -/
theorem writeRegister_hbn {s : State} (hlen : s.hb.length = 24) (v : Nat) :
    ∃ hb d, writeRegister 0x09 v s = { s with hbn := BitVec.ofNat 5 (min v 24), hb := hb, draws := d } ∧
      hb.length = 24 ∧ hb.take (min v 24) = s.hb.take (min v 24) := by
  have htake : (s.hb.take (min v 24)).length = min v 24 := by rw [List.length_take, hlen]; omega
  refine ⟨headerBuffer s.draws (s.hb.take (min v 24)), s.draws + 1, ?_, headerBuffer_length _ (by omega), ?_⟩
  · show loadHb _ s = _
    rw [loadHb, htake]
  · have h := headerBuffer_take s.draws (s.hb.take (min v 24))
    rwa [htake] at h

/-- Settles O58, register by register. -/
theorem hostWritesChangeTheirRegisterAlone : Obligations.HostWritesChangeTheirRegisterAlone := by
  intro s n v w rest hin hb hws hlen u
  have hstep : n ≠ 0 → step s = .next (writeRegister n v u) := step_write_accepted hin hb hws
  have hfield : ∀ f {m}, hostReg m = .dhField f → n = m → step s = .next { u with dh := writeField s.dh f v } := by
    rintro f m hm rfl
    rw [hstep (fun h0 => by rw [h0] at hm; cases hm), writeRegister_dhField hm]
  have hsame : ∀ f {m}, hostReg m = .dhField f → writeField s.dh f v = s.dh → n = m → step s = .next u := by
    intro f m hm hw hn
    rw [hfield f hm hn, hw]
  refine ⟨?_, ?_, ?_, ?_, ?_, ?_, fun h hdh => ?_, fun h hdh => ?_, fun hdh hn => ?_, fun hn => ?_⟩
  · rintro rfl
    rw [hstep (by decide)]
    simp [writeRegister, hostReg, Nat.testBit_zero]
  · rintro rfl
    exact hstep (by decide)
  · rintro rfl
    exact hstep (by decide)
  · rintro rfl
    exact hstep (by decide)
  · rintro rfl
    obtain ⟨hbytes, d, hw, hl, ht⟩ := writeRegister_hbn (s := u) hlen v
    exact ⟨_, hstep (by decide), by rw [hw], by rw [hw]; exact hl, by rw [hw]; exact ht⟩
  · rintro k hk rfl
    rw [hstep (by omega), writeRegister_hb hk]
  · rw [hdh] at hfield hsame
    refine ⟨hfield .signature rfl, hfield .blockType rfl, hfield .unknown3 rfl, hfield .reserved rfl,
      hfield .firmwareVersion rfl, hfield .declaredDataCrc32 rfl, hfield .declaredDataLength rfl, ?_⟩
    rintro (hn | hn | hn | hn)
    · exact hsame .headerChecksum rfl rfl hn
    · exact hsame .hardwareRevision rfl rfl hn
    · exact hsame .unknownField0x14 rfl rfl hn
    · exact hsame .deviceType rfl rfl hn
  · rw [hdh] at hfield hsame
    refine ⟨hfield .signature rfl, hfield .headerChecksum rfl, hfield .blockType rfl, hfield .hardwareRevision rfl,
      hfield .firmwareVersion rfl, hfield .declaredDataCrc32 rfl, hfield .declaredDataLength rfl,
      hfield .unknownField0x14 rfl, hfield .deviceType rfl, ?_⟩
    rintro (hn | hn)
    · exact hsame .unknown3 rfl rfl hn
    · exact hsame .reserved rfl rfl hn
  · obtain ⟨f, hf⟩ := hostReg_dhField hn.1 hn.2
    exact hsame f hf (by rw [hdh]; rfl) rfl
  · rw [hstep (by omega), writeRegister_readOnly v u hn]

/-! ### The tag of the decoded header -/

/-- Settles O59, tag by tag. -/
theorem hostWritesOfTheTagChangeTheVariant : Obligations.HostWritesOfTheTagChangeTheVariant := by
  intro s v w rest hin hb hws u
  have hstep : step s = .next (writeTag v u) := step_write_accepted hin hb hws (by decide)
  rw [hstep]
  refine ⟨fun hv => ?_, fun hv => ⟨?_, ?_⟩, fun hv => ⟨?_, ?_⟩, fun hv => ?_⟩
  · simp [writeTag, hv]
  · rintro ⟨h, hdh⟩
    simp [writeTag, hv, u, hdh]
  · rintro (hdh | ⟨h, hdh⟩) <;> exact ⟨_, _, by simp [writeTag, hv, u, hdh]; exact ⟨rfl, rfl⟩⟩
  · rintro ⟨h, hdh⟩
    simp [writeTag, hv, u, hdh]
  · rintro (hdh | ⟨h, hdh⟩) <;> exact ⟨_, _, by simp [writeTag, hv, u, hdh]; exact ⟨rfl, rfl⟩⟩
  · simp [writeTag, hv]

end Sys2Proof.Machine
end

section
/-! What the host wrote reads back, and the step runs what was decoded (O15, O20). -/

namespace Sys2Proof.Machine

/-! ### What the host wrote reads back -/

theorem tag_writeTag {v : Nat} (hv : v % 4 ≠ 3) (s : State) : (writeTag v s).dh.tag.code.toNat = v % 4 := by
  have h : v % 4 = 0 ∨ v % 4 = 1 ∨ v % 4 = 2 := by omega
  rcases h with h | h | h
  · simp [writeTag, h, DecodedHeader.tag, HeaderTag.code]
  · cases hdh : s.dh <;> simp [writeTag, h, hdh, DecodedHeader.tag, HeaderTag.code]
  · cases hdh : s.dh <;> simp [writeTag, h, hdh, DecodedHeader.tag, HeaderTag.code]

/-- A field written reads as what the header then holds. -/
theorem readRegister_writeRegister_dhField {n : Nat} {f : HeaderField} (hn : hostReg n = .dhField f) (v : Nat)
    (s : State) : (writeRegister n v s).readRegister n = some (readField (writeField s.dh f v) f) := by
  rw [readRegister_dhField _ f hn, writeRegister_dhField hn]

/-- Settles O20, register by register. -/
theorem hostWritesReadBack : Obligations.HostWritesReadBack := by
  intro s t n v w rest hin hb hws hlen hstep
  have ht : n ≠ 0 → t = writeRegister n v { s with inputs := rest } := fun hn => by
    rw [step_write_accepted hin hb hws hn] at hstep
    cases hstep
    rfl
  have hfield : ∀ f {m}, hostReg m = .dhField f → n = m →
      t.readRegister n = some (readField (writeField s.dh f v) f) := by
    rintro f m hm rfl
    rw [ht (fun h0 => by rw [h0] at hm; cases hm)]
    exact readRegister_writeRegister_dhField hm v _
  refine ⟨?_, ?_, ?_, ?_, ?_, ?_, fun h hdh => ?_, fun h hdh => ?_⟩
  · rintro rfl
    rw [ht (by decide)]
    show some (bitAt 0 (v.testBit 0)).toNat = some (v % 2)
    rw [toNat_bitAt_zero, Nat.testBit_zero]
    rcases Nat.mod_two_eq_zero_or_one v with h | h <;> simp [h]
  · rintro (rfl | rfl) <;> rw [ht (by decide)] <;> rfl
  · rintro rfl
    rw [ht (by decide)]
    exact congrArg some (BitVec.toNat_ofNat v 32)
  · rintro rfl
    rw [ht (by decide)]
    obtain ⟨hbytes, d, hw, -, -⟩ := writeRegister_hbn (s := { s with inputs := rest }) hlen v
    rw [hw]
    show some (BitVec.ofNat 5 (min v 24)).toNat = some (min v 24)
    rw [BitVec.toNat_ofNat, Nat.mod_eq_of_lt (by omega)]
  · rintro ⟨h1, h2⟩
    obtain ⟨k, rfl⟩ : ∃ k, n = 0x10 + k := ⟨n - 0x10, by omega⟩
    have hk : k < 24 := by omega
    rw [ht (by omega), readRegister_hb _ hk, writeRegister_hb hk]
    simp [List.getD_eq_getElem?_getD, hlen, hk]
  · rintro rfl hv
    rw [ht (by decide), readRegister_dhTag]
    exact congrArg some (tag_writeTag hv _)
  · rw [hdh] at hfield
    refine ⟨hfield .signature rfl, ?_, ?_⟩
    · rintro (hn | hn)
      · exact hfield .blockType rfl hn
      · exact hfield .unknown3 rfl hn
    · rintro (hn | hn | hn | hn)
      · exact hfield .reserved rfl hn
      · exact hfield .firmwareVersion rfl hn
      · exact hfield .declaredDataCrc32 rfl hn
      · exact hfield .declaredDataLength rfl hn
  · rw [hdh] at hfield
    refine ⟨?_, ?_, ?_⟩
    · rintro (hn | hn)
      · exact hfield .headerChecksum rfl hn
      · exact hfield .blockType rfl hn
    · rintro (hn | hn | hn)
      · exact hfield .hardwareRevision rfl hn
      · exact hfield .unknownField0x14 rfl hn
      · exact hfield .deviceType rfl hn
    · rintro (hn | hn | hn | hn)
      · exact hfield .signature rfl hn
      · exact hfield .firmwareVersion rfl hn
      · exact hfield .declaredDataCrc32 rfl hn
      · exact hfield .declaredDataLength rfl hn

/-! ### The step runs what was decoded -/

theorem decV1_of_decodeHeader {B : List Byte} {h : HeaderV1} (hd : decode (.header B) = .ok (.blockV1 h)) :
    decV1 B = some h := by
  simp only [decode, decodeHeader] at hd
  split_ifs at hd
  · split at hd <;> cases hd
  · split at hd <;> cases hd
    assumption

theorem decV2_of_decodeHeader {B : List Byte} {h : HeaderV2} (hd : decode (.header B) = .ok (.blockV2 h)) :
    decV2 B = some h := by
  simp only [decode, decodeHeader] at hd
  split_ifs at hd
  · split at hd <;> cases hd
    assumption
  · split at hd <;> cases hd

theorem instrForCode_walkStep_v1 {s : State} {h : HeaderV1} (hb : s.busy = false) (hw : s.ws = .scanningV1)
    (hd : decV1 (streamBytes s.mem s.fileLen s.cur 20) = some h) : instrForCode 0x9#4 s = .blockV1 h := by
  show (blockAtCursor s).getD .walkStep = _
  simp [blockAtCursor, hb, hw, sizeV1, hd]

theorem instrForCode_walkStep_v2 {s : State} {h : HeaderV2} (hb : s.busy = false) (hw : s.ws = .scanningV2)
    (hd : decV2 (streamBytes s.mem s.fileLen s.cur 24) = some h) : instrForCode 0x9#4 s = .blockV2 h := by
  show (blockAtCursor s).getD .walkStep = _
  simp [blockAtCursor, hb, hw, sizeV2, hd]

/-- A code that is not `WALK.STEP`, or that meets no scan, starts its operation. -/
theorem instrForCode_eq_decodeCode {s : State} {c : BitVec 4}
    (h : decodeCode c ≠ .walkStep ∨ s.busy = true ∨ (s.ws ≠ .scanningV1 ∧ s.ws ≠ .scanningV2)) :
    instrForCode c s = decodeCode c := by
  rcases h with hne | hb | ⟨h1, h2⟩
  · unfold instrForCode
    split
    · next hc => exact absurd hc hne
    · rfl
  · exact instrForCode_of_none (by simp [blockAtCursor, hb]) c
  · refine instrForCode_of_not_scan ?_ c
    cases hw : s.ws <;> simp_all [scanAccepts]

/-- Settles O15: a code decodes to its operation; `WALK.STEP` in a scan to the block whose header `decode` reads. -/
theorem stepRunsTheDecodedInstruction : Obligations.StepRunsTheDecodedInstruction := by
  refine ⟨fun s v w rest i hin hd hi => ?_, fun s v w rest h hin hc hb hw hd => ?_,
    fun s v w rest h hin hc hb hw hd => ?_⟩
  · cases hd
    rw [step_command hin, instrForCode_eq_decodeCode (s := { s with inputs := rest }) hi]
  · rw [step_command hin, hc,
      instrForCode_walkStep_v1 (s := { s with inputs := rest }) hb hw (decV1_of_decodeHeader hd)]
  · rw [step_command hin, hc,
      instrForCode_walkStep_v2 (s := { s with inputs := rest }) hb hw (decV2_of_decodeHeader hd)]

end Sys2Proof.Machine
end

section
/-! The CRC-32 by table is the bit-serial one (O24). -/

namespace Sys2Proof.Machine

/-! ### The table form of the CRC-32 (R139) -/

theorem iter32_eq (c : Word) : iter32 c = (c >>> 1) ^^^ if c.getLsbD 0 then poly32 else 0#32 := by
  unfold iter32
  split <;> simp

theorem ite_xor (p q : Bool) (x : Word) :
    (if p ^^ q then x else 0#32) = (if p then x else 0#32) ^^^ if q then x else 0#32 := by
  cases p <;> cases q <;> simp

/-- The iteration is linear. -/
theorem iter32_xor (a b : Word) : iter32 (a ^^^ b) = iter32 a ^^^ iter32 b := by
  rw [iter32_eq, iter32_eq, iter32_eq, BitVec.getLsbD_xor, ite_xor, BitVec.ushiftRight_xor_distrib]
  ac_rfl

theorem iter32x8_xor (a b : Word) : iter32x8 (a ^^^ b) = iter32x8 a ^^^ iter32x8 b := by
  simp only [iter32x8, iter32_xor]

theorem iter32_of_even {c : Word} (h : c.getLsbD 0 = false) : iter32 c = c >>> 1 := by
  rw [iter32, h, if_neg Bool.false_ne_true]

/-- Eight iterations shift a word whose low byte is 0 (R130). -/
theorem iter32x8_of_low_zero {c : Word} (h : ∀ i, i < 8 → c.getLsbD i = false) : iter32x8 c = c >>> 8 := by
  have hshift : ∀ k, k < 8 → iter32 (c >>> k) = c >>> (k + 1) := fun k hk => by
    rw [iter32_of_even (by rw [BitVec.getLsbD_ushiftRight]; exact h k hk), BitVec.shiftRight_add]
  have h0 : iter32 c = c >>> 1 := iter32_of_even (h 0 (by decide))
  simp only [iter32x8, h0, hshift 1 (by decide), hshift 2 (by decide), hshift 3 (by decide), hshift 4 (by decide),
    hshift 5 (by decide), hshift 6 (by decide), hshift 7 (by decide)]

/-- The table holds the eight iterations of each byte value (R132). -/
theorem builtTable_getD {x : Word} (h : x.toNat < 256) : builtTable.getD x.toNat 0#32 = iter32x8 x := by
  simp [builtTable, tbl, List.getD_eq_getElem?_getD, h]

theorem getLsbD_lowByte (i : Nat) : (0xFF#32).getLsbD i = decide (i < 8) := by
  show ((BitVec.allOnes 8).setWidth 32).getLsbD i = _
  rw [BitVec.getLsbD_setWidth, BitVec.getLsbD_allOnes]
  by_cases h : i < 8
  · simp [h, Nat.lt_trans h]
  · simp [h]

theorem xor_of_mask (x m : Word) : (x &&& m) ^^^ (x &&& ~~~m) = x := by
  ext i hi
  rw [BitVec.getElem_xor, BitVec.getElem_and, BitVec.getElem_and, BitVec.getElem_not]
  cases x[i] <;> cases m[i] <;> rfl

/-- The accumulator's high bytes pass the eight iterations as a shift, whatever byte comes in. -/
theorem iter32x8_highBytes (c : Word) (b : Byte) :
    iter32x8 ((c ^^^ b.setWidth 32) &&& ~~~0xFF#32) = c >>> 8 := by
  rw [iter32x8_of_low_zero]
  · ext i hi
    have hb : (b.setWidth 32).getLsbD (8 + i) = false := by
      rw [BitVec.getLsbD_setWidth, BitVec.getLsbD_of_ge b _ (by omega), Bool.and_false]
    rw [BitVec.getElem_ushiftRight, BitVec.getElem_ushiftRight, BitVec.getLsbD_and, BitVec.getLsbD_xor, hb,
      BitVec.getLsbD_not, getLsbD_lowByte]
    by_cases h : 8 + i < 32
    · simp [h]
    · simp [BitVec.getLsbD_of_ge c _ (Nat.le_of_not_lt h)]
  · intro i hi
    rw [BitVec.getLsbD_and, BitVec.getLsbD_not, getLsbD_lowByte]
    simp [hi]

/-- One table update is eight bit-serial iterations (R139): the low byte picks the table's entry, the rest is
shifted. -/
theorem crcUpdate_builtTable (c : Word) (b : Byte) :
    crcUpdate builtTable c b = iter32x8 (c ^^^ b.setWidth 32) := by
  have hlow : ((c ^^^ b.setWidth 32) &&& 0xFF#32).toNat < 256 := by
    rw [BitVec.toNat_and]
    exact Nat.lt_of_le_of_lt Nat.and_le_right (by decide)
  calc crcUpdate builtTable c b
      = iter32x8 ((c ^^^ b.setWidth 32) &&& 0xFF#32) ^^^ (c >>> 8) := by rw [crcUpdate, builtTable_getD hlow]
    _ = iter32x8 ((c ^^^ b.setWidth 32) &&& 0xFF#32) ^^^ iter32x8 ((c ^^^ b.setWidth 32) &&& ~~~0xFF#32) := by
        rw [iter32x8_highBytes]
    _ = iter32x8 (c ^^^ b.setWidth 32) := by rw [← iter32x8_xor, xor_of_mask]

/-- With the table built a run leaves the bit-serial CRC-32 of its bytes. -/
theorem crcRun_builtTable {s : State} (htable : s.table = builtTable) :
    (crcRun s).crcout = ~~~ crcBitSerial (memRead s.mem s.cur (crcRun s).cnt.toNat) ∧
      (crcRun s).cur = s.cur + (crcRun s).cnt.toNat ∧ (crcRun s).cnt ≤ s.maxb := by
  have hle := streamCount_le s.fileLen s.cur s.maxb.toNat
  have hcnt : (crcRun s).cnt.toNat = streamCount s.fileLen s.cur s.maxb.toNat := by
    rw [crcRun_eq, BitVec.toNat_ofNat, Nat.mod_eq_of_lt (by have := s.maxb.isLt; omega)]
  have hupdate : crcUpdate builtTable = fun c b => iter32x8 (c ^^^ b.setWidth 32) :=
    funext fun c => funext fun b => crcUpdate_builtTable c b
  refine ⟨?_, (crcRun_cursor s).1, ?_⟩
  · rw [hcnt, crcRun_eq, htable, hupdate]
    rfl
  · rw [BitVec.le_def, hcnt]
    exact hle

/-- Settles O24, by the table form of the byte update. -/
theorem crcComputeIsTheReflectedCrc32 : Obligations.CrcComputeIsTheReflectedCrc32 := by
  intro s t hb hws htv htable he
  rw [exec_accepted (i := .crcCompute) rfl hb (unitAccepts_eq_true.2 hws) (needsTable_eq_none.2 htv)] at he
  cases he
  exact crcRun_builtTable (s := accept s) htable

end Sys2Proof.Machine
end

section
/-! The examination of a block in closed form, and a repair that fails (O40). -/

namespace Sys2Proof.Machine

/-! ### The examination of a block, in closed form -/

/-- The header codec reads back what it wrote, V1 (R187). -/
theorem decV1_encV1 (h : HeaderV1) : decV1 (encV1 h) = some h := by
  have hsig : le16 (encV1 h) 0 = h.signature := half_of_bytes _
  have hreserved : le32 (encV1 h) 4 = h.reserved := word_of_bytes _
  have hlength : le32 (encV1 h) 8 = h.declaredDataLength := word_of_bytes _
  have hcrc : le32 (encV1 h) 12 = h.declaredDataCrc32 := word_of_bytes _
  have hversion : le32 (encV1 h) 16 = h.firmwareVersion := word_of_bytes _
  rw [decV1, if_neg (by rw [encV1_length]; decide), hsig, hreserved, hlength, hcrc, hversion]
  rfl

/-- The header codec reads back what it wrote, V2 (R187). -/
theorem decV2_encV2 (h : HeaderV2) : decV2 (encV2 h) = some h := by
  have hsig : le32 (encV2 h) 0 = h.signature := word_of_bytes _
  have hrevision : le16 (encV2 h) 6 = h.hardwareRevision := half_of_bytes _
  have hversion : le32 (encV2 h) 8 = h.firmwareVersion := word_of_bytes _
  have hcrc : le32 (encV2 h) 12 = h.declaredDataCrc32 := word_of_bytes _
  have hlength : le32 (encV2 h) 16 = h.declaredDataLength := word_of_bytes _
  have hunknown : le16 (encV2 h) 20 = h.unknownField0x14 := half_of_bytes _
  have hdevice : le16 (encV2 h) 22 = h.deviceType := half_of_bytes _
  rw [decV2, if_neg (by rw [encV2_length]; decide), hsig, hrevision, hversion, hcrc, hlength, hunknown, hdevice]
  rfl

theorem bne_eq_decide_ne {n : Nat} (a b : BitVec n) : (a != b) = decide (a ≠ b) := by
  by_cases h : a = b <;> simp [h]

/-- S2 and S3 on a whole header whose signature is right (R216 to R218). -/
theorem examine_of_decoded {B : List Byte} {s : State} (hB : 0 < B.length) (hlen : modeSize s.ws ≤ B.length)
    (hsig : signatureOk (decodeByMode (loadHb B s)) = true) :
    examine B s = (repairBlock (examineBlock { loadHb B s with
      dh := decodeByMode (loadHb B s), incomplete := false, sigok := true })).andThen continueOrStop := by
  have hload : loadHeader (modeSize s.ws) B s = .goes (loadHb B s) := by
    rcases loadHeader_cases (modeSize s.ws) B s with ⟨h, -⟩ | ⟨-, h, -⟩ | ⟨-, -, h⟩
    · omega
    · omega
    · exact h
  have hdec : decodeAndCheck (loadHb B s) = .goes { loadHb B s with
      dh := decodeByMode (loadHb B s), incomplete := false, sigok := true } := by
    rcases decodeAndCheck_cases (loadHb B s) with ⟨-, h⟩ | ⟨h, -⟩
    · exact h
    · simp [h] at hsig
  rw [examine, hload, Flow.andThen_goes, hdec, Flow.andThen_goes]

/-- The bytes of a V1 header in the buffer decode to it in the V1 mode. -/
theorem decodeByMode_loadHb_v1 {s : State} (hw : s.ws = .scanningV1) (h : HeaderV1) :
    decodeByMode (loadHb (encV1 h) s) = .v1 h := by
  have htake : (headerBuffer s.draws (encV1 h)).take sizeV1 = encV1 h := headerBuffer_take s.draws (encV1 h)
  simp [decodeByMode, hw, htake, decV1_encV1, DecodedHeader.ofV1]

theorem decodeByMode_loadHb_v2 {s : State} (hw : s.ws = .scanningV2) (h : HeaderV2) :
    decodeByMode (loadHb (encV2 h) s) = .v2 h := by
  have htake : (headerBuffer s.draws (encV2 h)).take sizeV2 = encV2 h := headerBuffer_take s.draws (encV2 h)
  simp [decodeByMode, hw, htake, decV2_encV2, DecodedHeader.ofV2]

/-- S5 to S8 on a decoded V1 header are `examinedV1` (R219 to R222). -/
theorem examineBlock_v1 {s : State} (hw : s.ws = .scanningV1) (h : HeaderV1) :
    examineBlock { loadHb (encV1 h) { recordOffset (accept s) with cur := s.cur + 20 } with
      dh := .v1 h, incomplete := false, sigok := true } = examinedV1 h s := by
  have hlen : (payloadAt s 20 h.declaredDataLength).length =
      streamCount s.fileLen (s.cur + 20) h.declaredDataLength.toNat := streamBytes_length ..
  simp only [examineBlock, checkHeaderChecksum, checkPayload, crcRun_eq, compareCrc, crcBadFlag, bne_eq_decide_ne,
    reportBlock, blockRecord, modeSize, loadHb_ws, recordOffset_ws, accept_ws, hw, examinedV1, hlen]
  rfl

/-- S5 on a V2 header that fills the buffer: the checksum covers the header's last 19 bytes (R164, R219). -/
theorem checkHeaderChecksum_v2 {s : State} {h : HeaderV2} (hdh : s.dh = .v2 h) (hhb : s.hb = encV2 h) :
    checkHeaderChecksum s = { s with
      res := hcs s.params.hcsSeed ((encV2 h).drop 5)
      dat := 0#8
      hcsout := hcs s.params.hcsSeed ((encV2 h).drop 5)
      hcsbad := decide (hcs s.params.hcsSeed ((encV2 h).drop 5) ≠ h.headerChecksum) } := by
  have hrange : checksumRange s.hb = (encV2 h).drop 5 := by rw [hhb]; rfl
  have hsum := hcsOverHb_eq (s := s) (by rw [hrange]; exact List.cons_ne_nil _ _)
  rw [hrange] at hsum
  simp only [checkHeaderChecksum, hdh, hsum, hcsBadFlag, bne_eq_decide_ne]

/-- A V2 header fills the buffer. -/
theorem loadHb_encV2 (h : HeaderV2) (s : State) :
    loadHb (encV2 h) s = { s with hb := encV2 h, hbn := 24#5, draws := s.draws + 1 } := by
  rw [loadHb, headerBuffer_full _ (encV2_length h), encV2_length]

/-- S5 to S8 on a decoded V2 header are `examinedV2` (R219 to R222). -/
theorem examineBlock_v2 {s : State} (hw : s.ws = .scanningV2) (h : HeaderV2) :
    examineBlock { loadHb (encV2 h) { recordOffset (accept s) with cur := s.cur + 24 } with
      dh := .v2 h, incomplete := false, sigok := true } = examinedV2 h s := by
  have hlen : (payloadAt s 24 h.declaredDataLength).length =
      streamCount s.fileLen (s.cur + 24) h.declaredDataLength.toNat := streamBytes_length ..
  rw [loadHb_encV2, examineBlock, checkHeaderChecksum_v2 rfl rfl]
  simp only [checkPayload, crcRun_eq, compareCrc, crcBadFlag, bne_eq_decide_ne, reportBlock, blockRecord, modeSize,
    recordOffset_ws, accept_ws, hw, examinedV2, hlen]
  rfl

/-- S1 to S8 on a V1 block with the right signature (R215 to R222). -/
theorem examineAt_v1 {s : State} {h : HeaderV1} (hw : s.ws = .scanningV1) (hsig : h.signature = sigV1) :
    examineAt (encV1 h) (accept s) = (repairBlock (examinedV1 h s)).andThen continueOrStop := by
  have hmode : ({ recordOffset (accept s) with cur := s.cur + 20 } : State).ws = .scanningV1 := hw
  have hdec := decodeByMode_loadHb_v1 hmode h
  show examine (encV1 h) { recordOffset (accept s) with cur := s.cur + 20 } = _
  rw [examine_of_decoded (B := encV1 h) (Nat.succ_pos 19) (by rw [hmode]; exact Nat.le_refl 20)
    (by rw [hdec]; simp [signatureOk, hsig]), hdec, examineBlock_v1 hw]

theorem examineAt_v2 {s : State} {h : HeaderV2} (hw : s.ws = .scanningV2) (hsig : h.signature = sigV2) :
    examineAt (encV2 h) (accept s) = (repairBlock (examinedV2 h s)).andThen continueOrStop := by
  have hmode : ({ recordOffset (accept s) with cur := s.cur + 24 } : State).ws = .scanningV2 := hw
  have hdec := decodeByMode_loadHb_v2 hmode h
  show examine (encV2 h) { recordOffset (accept s) with cur := s.cur + 24 } = _
  rw [examine_of_decoded (B := encV2 h) (Nat.succ_pos 23) (by rw [hmode]; exact Nat.le_refl 24)
    (by rw [hdec]; simp [signatureOk, hsig]), hdec, examineBlock_v2 hw]

/-- A header word of the mode's size is the whole header read (log 15). -/
theorem headerReadOver_eq {w : List Byte} {s : State} (hw : w.length = modeSize s.ws) : headerReadOver w s = w := by
  rw [headerReadOver, ← hw, List.take_left]

/-- An accepted V1 block with the right signature is examined, repaired and ended (R214). -/
theorem exec_blockV1 {s : State} {h : HeaderV1} (hb : s.busy = false) (hw : s.ws = .scanningV1)
    (hsig : h.signature = sigV1) :
    exec (.blockV1 h) s = .next (release ((repairBlock (examinedV1 h s)).andThen continueOrStop).state) := by
  have hread : headerReadOver (encV1 h) (accept s) = encV1 h := headerReadOver_eq (by rw [accept_ws, hw]; rfl)
  have hrule : blockRule (encV1 h) (accept s) = (repairBlock (examinedV1 h s)).andThen continueOrStop := by
    rw [blockRule_eq, hread, examineAt_v1 hw hsig]
  rw [← hrule]
  exact exec_accepted (i := .blockV1 h) rfl hb (by rw [hw]; rfl) rfl

theorem exec_blockV2 {s : State} {h : HeaderV2} (hb : s.busy = false) (hw : s.ws = .scanningV2)
    (hsig : h.signature = sigV2) :
    exec (.blockV2 h) s = .next (release ((repairBlock (examinedV2 h s)).andThen continueOrStop).state) := by
  have hread : headerReadOver (encV2 h) (accept s) = encV2 h := headerReadOver_eq (by rw [accept_ws, hw]; rfl)
  have hrule : blockRule (encV2 h) (accept s) = (repairBlock (examinedV2 h s)).andThen continueOrStop := by
    rw [blockRule_eq, hread, examineAt_v2 hw hsig]
  rw [← hrule]
  exact exec_accepted (i := .blockV2 h) rfl hb (by rw [hw]; rfl) rfl

/-! ### A failing rewrite -/

/-- A rewrite inside the file fails where the port has no write access, and where its answer is a failure; the stage is
recorded (R263, R331). -/
theorem rewriteHeader_fails {access : Bool} {n : Nat} {s : State} {stage : RepairStage} (hin : s.hoff + n ≤ s.fileLen)
    (h : (access = false ∧ stage = .write) ∨
      (access = true ∧ ∃ o rest, s.answers = o :: rest ∧ failedStage o = some stage)) :
    ∃ u, rewriteHeader access n s = .ended (raiseFatal (emit (.repairFatal s.hoff stage) u)) ∧ u.rpt = s.rpt ∧
      u.fileLen = s.fileLen := by
  rcases h with ⟨rfl, rfl⟩ | ⟨rfl, o, rest, hans, hstage⟩
  · exact ⟨{ s with saved := s.cur }, rfl, rfl, rfl⟩
  · refine ⟨{ s with saved := s.cur, answers := rest }, ?_, rfl, rfl⟩
    simp [rewriteHeader, rewriteAnswer, Nat.not_lt.2 hin, drawAnswer, hans, hstage]

/-- S9 with repair on, a mismatch, and a rewrite that fails (R223, R263). -/
theorem repairBlock_fails {x : State} {stage : RepairStage} (hre : x.re = true)
    (hbad : x.short = true ∨ x.crcbad = true ∨ x.hcsbad = true) (hin : x.hoff + modeSize x.ws ≤ x.fileLen)
    (h : (x.writeAccess = false ∧ stage = .write) ∨
      (x.writeAccess = true ∧ ∃ o rest, x.answers = o :: rest ∧ failedStage o = some stage)) :
    ∃ u, repairBlock x = .ended (raiseFatal (emit (.repairFatal x.hoff stage) u)) ∧ u.rpt = x.rpt ∧
      u.fileLen = x.fileLen := by
  have hmismatch : (x.re && anyMismatch x) = true := by
    rw [hre, anyMismatch]
    rcases hbad with h | h | h <;> simp [h]
  rcases repairBlock_cases x with ⟨hno, -⟩ | ⟨-, hwrite⟩
  · simp [hmismatch] at hno
  · obtain ⟨dh, hb, res, dat, out, hcorr⟩ := correctHeader_eq x
    rw [hwrite, hcorr]
    exact rewriteHeader_fails hin h

/-- Settles O40: both formats leave the examined block, whose repair fails. -/
theorem failedRepairIsFatal : Obligations.FailedRepairIsFatal := by
  intro s x i o stage rest hb hre hin hblock hbad hfail
  have hrun : exec i s = .next (release ((repairBlock x).andThen continueOrStop).state) := by
    rcases hblock with ⟨h, rfl, hw, hsig, rfl⟩ | ⟨h, rfl, hw, hsig, rfl⟩
    · exact exec_blockV1 hb hw hsig
    · exact exec_blockV2 hb hw hsig
  have hx : x.re = s.re ∧ x.hoff = s.cur ∧ x.ws = s.ws ∧ x.fileLen = s.fileLen ∧ x.writeAccess = s.writeAccess ∧
      x.answers = s.answers := by
    rcases hblock with ⟨h, -, -, -, rfl⟩ | ⟨h, -, -, -, rfl⟩ <;> exact ⟨rfl, rfl, rfl, rfl, rfl, rfl⟩
  obtain ⟨hxre, hxhoff, hxws, hxlen, hxaccess, hxans⟩ := hx
  obtain ⟨u, hu, hurpt, hulen⟩ := repairBlock_fails (x := x) (stage := stage) (hxre.trans hre) hbad
    (by rw [hxhoff, hxws, hxlen]; exact hin) (by
      rw [hxaccess, hxans]
      refine hfail.imp id fun ⟨hacc, hans, ho⟩ => ⟨hacc, o, rest, hans, ?_⟩
      rcases ho with ⟨rfl, rfl⟩ | ⟨rfl, rfl⟩ | ⟨rfl, rfl⟩ <;> rfl)
  rw [hu] at hrun
  refine ⟨_, hrun, rfl, rfl, rfl, rfl, ?_, hulen.trans hxlen⟩
  show u.rpt ++ [.repairFatal x.hoff stage] = _
  rw [hurpt, hxhoff]

end Sys2Proof.Machine
end

section
/-! The shape of the state along every step (O54), and the file, which a repair alone writes (O50). -/

namespace Sys2Proof.Machine

/-! ### The rule behind an instruction -/

/-- An instruction is refused, or its operation is accepted and its rule runs to the end. -/
theorem exec_operation {i : Instr} {s t : State} (h : exec i s = .next t) :
    (∃ c, t = refuse c s) ∨ ∃ o, operationOf i = some o ∧ s.busy = false ∧ o.accepts s.ws = true ∧
      o.unready s = none ∧ t = release (o.rule (accept s)).state := by
  rw [exec_eq] at h
  cases ho : operationOf i with
  | none =>
    rw [ho] at h
    exact Or.inl (reservedCode_cases h)
  | some o =>
    rw [ho] at h
    rcases command_cases h with ⟨-, rfl⟩ | ⟨-, -, rfl⟩ | ⟨-, -, c, -, rfl⟩ | ⟨hb, ha, hu, rfl⟩
    · exact Or.inl ⟨_, rfl⟩
    · exact Or.inl ⟨_, rfl⟩
    · exact Or.inl ⟨_, rfl⟩
    · exact Or.inr ⟨o, rfl, hb, ha, hu, rfl⟩

/-- What a flow keeps, going on or ended, holds of the state it leaves. -/
theorem Flow.Leads.state_self {P : State → Prop} {x : Flow} (hx : x.Leads P P) : P x.state :=
  hx.state (fun _ => id) fun _ => id

/-- What the examination of a block keeps (R214): a property that does not look at what the header stops and S3 write,
and that the header read, S5 to S8 and the repair keep. -/
theorem examineAt_keeps {P : State → Prop} {B : List Byte} {s : State}
    (hframe : ∀ t, P t → ∀ ws cause exitCode busy incomplete sigok dh rpt,
      P { t with ws := ws, cause := cause, exitCode := exitCode, busy := busy, incomplete := incomplete,
                 sigok := sigok, dh := dh, rpt := rpt })
    (hread : P (loadHb B { recordOffset s with cur := s.cur + B.length })) (hexamine : ∀ t, P t → P (examineBlock t))
    (hrepair : ∀ t, P t → (repairBlock t).Leads P P) : (examineAt B s).Leads P P := by
  have hload : ∀ n x, P (loadHb B x) → (loadHeader n B x).Leads P P := fun n x hx => by
    rcases loadHeader_cases n B x with ⟨-, h⟩ | ⟨-, -, h⟩ | ⟨-, -, h⟩ <;> rw [h]
    · exact hframe _ hx ..
    · exact hframe _ hx ..
    · exact hx
  have hdecode : ∀ x, P x → (decodeAndCheck x).Leads P P := fun x hx => by
    rcases decodeAndCheck_cases x with ⟨-, h⟩ | ⟨-, h⟩ <;> rw [h] <;> exact hframe _ hx ..
  have hcontinue : ∀ x, P x → (continueOrStop x).Leads P P := fun x hx => by
    rcases continueOrStop_cases x with ⟨-, h⟩ | ⟨-, h⟩ <;> rw [h]
    · exact hframe _ hx ..
    · exact hx
  exact (((hload _ _ hread).andThen hdecode).andThen fun t ht => hrepair _ (hexamine t ht)).andThen hcontinue

/-! ### The shape of the state -/

/-- What `State.wf` says of a state, but for `BUSY`, which is 1 while an operation runs. -/
structure State.Shaped (s : State) : Prop where
  canonical : memWf s.mem = true
  inFile : memBelow s.mem s.fileLen = true
  hb : s.hb.length = 24
  hbn : s.hbn.toNat ≤ 24
  table : s.table.length = 256
  params : s.params.inRange = true
  fileLen : s.fileLen < 2 ^ s.params.offsetW
  cur : s.cur < 2 ^ s.params.offsetW
  hoff : s.hoff < 2 ^ s.params.offsetW
  saved : s.saved < 2 ^ s.params.offsetW

theorem State.wf_iff {s : State} : s.wf = true ↔ s.Shaped ∧ s.busy = false := by
  simp only [State.wf, Bool.and_eq_true, decide_eq_true_eq, Bool.not_eq_true']
  constructor
  · rintro ⟨⟨⟨⟨⟨⟨⟨⟨⟨⟨hcan, hin⟩, hhb⟩, hhbn⟩, htable⟩, hparams⟩, hbusy⟩, hlen⟩, hcur⟩, hhoff⟩, hsaved⟩
    exact ⟨⟨hcan, hin, hhb, hhbn, htable, hparams, hlen, hcur, hhoff, hsaved⟩, hbusy⟩
  · rintro ⟨⟨hcan, hin, hhb, hhbn, htable, hparams, hlen, hcur, hhoff, hsaved⟩, hbusy⟩
    exact ⟨⟨⟨⟨⟨⟨⟨⟨⟨⟨hcan, hin⟩, hhb⟩, hhbn⟩, htable⟩, hparams⟩, hbusy⟩, hlen⟩, hcur⟩, hhoff⟩, hsaved⟩

/-- A register written at its width fits it (R7, R22). -/
theorem offset_lt (p : Params) (n : Nat) : p.offset n < 2 ^ p.offsetW := Nat.mod_lt _ (Nat.two_pow_pos _)

/-- A stream read moves the cursor at most to the end of the file, and not at all from beyond it (R64). -/
theorem cur_add_streamCount_le_max (len cur n : Nat) : cur + streamCount len cur n ≤ max cur len := by
  rw [streamCount]
  split_ifs <;> omega

theorem DecodedHeader.bytes_length_le (d : DecodedHeader) : d.bytes.length ≤ 24 := by
  cases d <;> simp [DecodedHeader.bytes]

theorem modeSize_le (ws : WalkState) : modeSize ws ≤ 24 := by cases ws <;> decide

/-- A stream read from a well-formed state leaves a cursor that fits its register (R24). -/
theorem State.Shaped.cur_add_streamCount_lt {s : State} (h : s.Shaped) (n : Nat) :
    s.cur + streamCount s.fileLen s.cur n < 2 ^ s.params.offsetW :=
  (cur_add_streamCount_le_max ..).trans_lt (max_lt h.cur h.fileLen)

theorem State.Shaped.loadHb {s : State} (h : s.Shaped) {B : List Byte} (hB : B.length ≤ 24) : (loadHb B s).Shaped :=
  { h with
    hb := headerBuffer_length _ hB
    hbn := by rw [loadHb_hbn, BitVec.toNat_ofNat]; exact (Nat.mod_le ..).trans hB }

theorem State.Shaped.patchHb {s : State} (h : s.Shaped) {B : List Byte} (hB : B.length ≤ 24) : (patchHb B s).Shaped :=
  { h with hb := by rw [patchHb_hb, List.length_append, List.length_drop, h.hb]; omega }

theorem State.Shaped.crcRun {s : State} (h : s.Shaped) : (crcRun s).Shaped := by
  rw [crcRun_eq]
  exact { h with cur := h.cur_add_streamCount_lt _ }

/-- S5 to S8 run the checksum and the CRC over the payload (R219 to R222). -/
theorem State.Shaped.examineBlock {s : State} (h : s.Shaped) : (examineBlock s).Shaped := by
  obtain ⟨res, dat, out, bad, hc⟩ := checkHeaderChecksum_eq s
  have hs5 : (checkHeaderChecksum s).Shaped := by rw [hc]; exact { h with }
  have hrun : (Machine.crcRun { checkHeaderChecksum s with
      maxb := (checkHeaderChecksum s).dh.declaredDataLength }).Shaped :=
    State.Shaped.crcRun { hs5 with }
  exact { hrun with }

/-- The correction replaces bytes of the header buffer, no more than it holds (R261). -/
theorem State.Shaped.correctHeader {s : State} (h : s.Shaped) : (correctHeader s).Shaped := by
  have hfields : (correctFields s).Shaped :=
    State.Shaped.patchHb (s := { s with dh := correctedHeader s }) { h with } (DecodedHeader.bytes_length_le _)
  unfold Machine.correctHeader
  cases s.dh with
  | v2 _ => exact { hfields with hb := by simpa [recomputeChecksum] using hfields.hb }
  | v1 _ => exact hfields
  | none => exact hfields

/-- After a failed rewrite the file's bytes and the cursor are free, the length is not (R266, log 6). -/
theorem State.Shaped.raiseFatal {s : State} (h : s.Shaped) : (raiseFatal s).Shaped :=
  { h with canonical := memFill_wf .., inFile := memFill_below .., cur := offset_lt .. }

/-- A rewrite writes inside the file, or fails (R263, R265). -/
theorem State.Shaped.rewriteHeader {s : State} (h : s.Shaped) (access : Bool) (n : Nat) :
    (rewriteHeader access n s).Leads State.Shaped State.Shaped := by
  obtain ⟨ans, d, ⟨-, hin, hgo⟩ | ⟨stage, hend⟩⟩ := rewriteHeader_cases access n s
  · rw [hgo]
    have hwrite : s.hoff + (s.hb.take n).length ≤ s.fileLen := by
      have := List.length_take_le n s.hb
      omega
    exact { h with
      canonical := memWrite_wf _ _ h.canonical, inFile := memWrite_below _ _ h.inFile hwrite, saved := h.cur }
  · rw [hend]
    exact State.Shaped.raiseFatal { h with saved := h.cur }

theorem State.Shaped.repairBlock {s : State} (h : s.Shaped) : (repairBlock s).Leads State.Shaped State.Shaped := by
  rcases repairBlock_cases s with ⟨-, hgo⟩ | ⟨-, hwrite⟩
  · rw [hgo]; exact h
  · rw [hwrite]; exact h.correctHeader.rewriteHeader ..

/-- A block keeps the shape where its header is no longer than the buffer and the cursor behind it fits. -/
theorem State.Shaped.examineAt {s : State} (h : s.Shaped) {B : List Byte} (hB : B.length ≤ modeSize s.ws)
    (hcur : s.cur + B.length < 2 ^ s.params.offsetW) : (examineAt B s).Leads State.Shaped State.Shaped := by
  refine examineAt_keeps (fun _ ht _ _ _ _ _ _ _ _ => { ht with }) ?_ (fun _ => State.Shaped.examineBlock)
    fun _ => State.Shaped.repairBlock
  have hs1 : ({ recordOffset s with cur := s.cur + B.length } : State).Shaped := { h with cur := hcur, hoff := h.cur }
  exact hs1.loadHb (hB.trans (modeSize_le _))

theorem State.Shaped.walkStepRule {s : State} (h : s.Shaped) :
    (walkStepRule s).Leads State.Shaped State.Shaped := by
  rw [walkStepRule_eq]
  apply h.examineAt <;> rw [streamBytes_length]
  · exact streamCount_le ..
  · exact h.cur_add_streamCount_lt _

theorem State.Shaped.blockRule {s : State} (h : s.Shaped) (w : List Byte) (hin : s.cur + modeSize s.ws ≤ s.fileLen) :
    (blockRule w s).Leads State.Shaped State.Shaped := by
  have hB := headerReadOver_length_le w s
  have hlen := h.fileLen
  rw [blockRule_eq]
  exact h.examineAt hB (by omega)

theorem ProbeFlow.shaped {s : State} {f : Flow} (hf : ProbeFlow s f) (h : s.Shaped) :
    f.Leads State.Shaped State.Shaped := by
  cases hf with
  | unreadable k => exact { h with }
  | unrecognized x => exact { h with }
  | starts ws _ _ => exact { h with }

theorem State.Shaped.walkRunRule {s : State} (h : s.Shaped) : (walkRunRule s).Leads State.Shaped State.Shaped :=
  walkRunRule_leads ((walkProbeRule_flow s).shaped h) fun _ => State.Shaped.walkStepRule

/-- The rule of every operation keeps the shape, a block's if its header lies in the file. -/
theorem State.Shaped.rule {s : State} (h : s.Shaped) {i : Instr} {o : Operation} (ho : operationOf i = some o)
    (hi : (∃ c, decodeCode c = i) ∨ s.cur + modeSize s.ws ≤ s.fileLen) : (o.rule s).state.Shaped := by
  cases i with
  | blockV1 w =>
    cases ho
    exact (h.blockRule _ (hi.resolve_left fun ⟨c, hc⟩ => (decodeCode_ne_block c).1 w hc)).state_self
  | blockV2 w =>
    cases ho
    exact (h.blockRule _ (hi.resolve_left fun ⟨c, hc⟩ => (decodeCode_ne_block c).2 w hc)).state_self
  | crcBuild => cases ho; exact { h with table := builtTable_length }
  | crcCompute => cases ho; exact h.crcRun
  | hcsCompute => cases ho; exact { h with }
  | hdrDec1 => cases ho; exact { h with }
  | hdrDec2 => cases ho; exact { h with }
  | hdrVsig => cases ho; exact { h with }
  | hdrEnc => cases ho; exact h.loadHb (DecodedHeader.bytes_length_le _)
  | walkProbe => cases ho; exact ((walkProbeRule_flow s).shaped h).state_self
  | walkStep => cases ho; exact h.walkStepRule.state_self
  | walkRun => cases ho; exact h.walkRunRule.state_self
  | rprRewrite => cases ho; exact (h.rewriteHeader ..).state_self
  | _ => cases ho

theorem exec_wf {i : Instr} {s t : State} (he : exec i s = .next t) (h : s.wf = true)
    (hi : (∃ c, decodeCode c = i) ∨ s.cur + modeSize s.ws ≤ s.fileLen) : t.wf = true := by
  rw [State.wf_iff] at h ⊢
  obtain ⟨hs, hb⟩ := h
  rcases exec_operation he with ⟨c, rfl⟩ | ⟨o, ho, -, -, -, rfl⟩
  · exact ⟨{ hs with }, hb⟩
  · have hrule := State.Shaped.rule (s := accept s) { hs with } ho hi
    exact ⟨{ hrule with }, rfl⟩

/-! ### The host's inputs -/

/-- A register write keeps the register's width (R36, R43). -/
theorem writeRegister_wf {s : State} (h : s.wf = true) (n v : Nat) : (writeRegister n v s).wf = true := by
  rw [State.wf_iff] at h ⊢
  obtain ⟨hs, hb⟩ := h
  unfold writeRegister
  cases hostReg n with
  | cur => exact ⟨{ hs with cur := offset_lt .. }, hb⟩
  | hoff => exact ⟨{ hs with hoff := offset_lt .. }, hb⟩
  | hbn => exact ⟨hs.loadHb ((List.length_take_le _ _).trans (Nat.min_le_right ..)), hb⟩
  | hb k => exact ⟨{ hs with hb := (List.length_set ..).trans hs.hb }, hb⟩
  | dhTag =>
    obtain ⟨dh, d, htag⟩ := writeTag_eq v s
    simp only [htag]
    exact ⟨{ hs with }, hb⟩
  | _ => exact ⟨{ hs with }, hb⟩

theorem hostWrite_wf {s : State} (h : s.wf = true) (n v : Nat) : (hostWrite n v s).wf = true := by
  rcases hostWrite_cases n v s with hw | ⟨-, -, hw⟩ <;> rw [hw]
  · exact h
  · exact writeRegister_wf h n v

/-- An attached file is taken in canonical form, and only if its length fits (R61, R211). -/
theorem attachFile_wf {B : List Byte} {s t : State} (h : s.wf = true) (ht : attachFile B s = .next t) :
    t.wf = true := by
  rw [State.wf_iff] at h ⊢
  obtain ⟨hs, hb⟩ := h
  unfold attachFile at ht
  split_ifs at ht with _ hlen
  cases ht
  exact ⟨{ hs with canonical := memFill_wf .., inFile := memFill_below .., fileLen := hlen }, hb⟩

/-- Reset keeps the file and the parameters; every other register takes a value of its width (R321). -/
theorem resetCore_wf {s : State} (h : s.wf = true) : (resetCore s).wf = true := by
  rw [State.wf_iff] at h ⊢
  obtain ⟨hs, -⟩ := h
  refine ⟨{ hs with
    hb := State.reset_hb_length, hbn := Nat.zero_le _, table := ?_,
    cur := Nat.two_pow_pos _, hoff := Nat.two_pow_pos _, saved := Nat.two_pow_pos _ }, rfl⟩
  rw [resetCore_table]
  split_ifs
  · exact builtTable_length
  · exact State.reset_table_length

/-- Settles O54: by the host's next input; a block that a code starts has its header in the file. -/
theorem stepKeepsTheStateWellFormed : Obligations.StepKeepsTheStateWellFormed := by
  intro s t h hstep
  cases hin : s.inputs with
  | nil =>
    rw [step_nil hin] at hstep
    cases hstep
    exact h
  | cons x rest =>
    cases x with
    | write n v w =>
      by_cases hn : n = 0
      · subst hn
        rw [step_command hin] at hstep
        refine exec_wf (s := { s with inputs := rest }) hstep h ?_
        exact (instrForCode_cases (BitVec.ofNat 4 v) { s with inputs := rest }).imp_left fun hc => ⟨_, hc.symm⟩
      · rw [step_write hin hn] at hstep
        cases hstep
        exact hostWrite_wf (s := { s with inputs := rest }) h n v
    | attach B =>
      rw [step_attach hin] at hstep
      exact attachFile_wf (s := { s with inputs := rest }) h hstep
    | grant b =>
      rw [step_grant hin] at hstep
      cases hstep
      exact h
    | portAnswer o =>
      rw [step_portAnswer hin] at hstep
      cases hstep
      exact h
    | reset =>
      rw [step_reset hin] at hstep
      cases hstep
      exact resetCore_wf (s := { s with inputs := rest }) h

/-! ### The file changes only by repair -/

/-- The file is still `m`, unless repair is on. -/
def FileKept (m : List Host.Cell) (t : State) : Prop := t.mem = m ∨ t.re = true

/-- A rewrite keeps `RE`, whether it takes place or fails. -/
theorem rewriteHeader_re (access : Bool) (n : Nat) (s : State) :
    (rewriteHeader access n s).Leads (fun t => t.re = s.re) fun t => t.re = s.re := by
  obtain ⟨ans, d, ⟨-, -, hgo⟩ | ⟨stage, hend⟩⟩ := rewriteHeader_cases access n s
  · rw [hgo]; rfl
  · rw [hend]; rfl

/-- S9 is the one step of a block that reaches the file, and only with `RE` = 1 (R223, R260). -/
theorem repairBlock_fileKept {m : List Host.Cell} {s : State} (h : FileKept m s) :
    (repairBlock s).Leads (FileKept m) (FileKept m) := by
  rcases repairBlock_cases s with ⟨-, hgo⟩ | ⟨hmismatch, hwrite⟩
  · rw [hgo]; exact h
  · obtain ⟨dh, hb, res, dat, out, hcorr⟩ := correctHeader_eq s
    have hre : (correctHeader s).re = true := by
      rw [hcorr]
      exact (Bool.and_eq_true_iff.1 hmismatch).1
    rw [hwrite]
    exact (rewriteHeader_re _ _ (correctHeader s)).mono (fun _ ht => Or.inr (ht.trans hre)) fun _ ht =>
      Or.inr (ht.trans hre)

theorem examineBlock_fileKept {m : List Host.Cell} {s : State} (h : FileKept m s) : FileKept m (examineBlock s) := by
  obtain ⟨res, dat, out, bad, hc⟩ := checkHeaderChecksum_eq s
  have hs5 : FileKept m (checkHeaderChecksum s) := by rw [hc]; exact h
  exact hs5

theorem examineAt_fileKept {m : List Host.Cell} {s : State} (h : FileKept m s) (B : List Byte) :
    (examineAt B s).Leads (FileKept m) (FileKept m) :=
  examineAt_keeps (fun _ ht _ _ _ _ _ _ _ _ => ht) h (fun _ => examineBlock_fileKept) fun _ => repairBlock_fileKept

/-- The probe latches `RE` and leaves the file (R212). -/
theorem ProbeFlow.mem {s : State} {f : Flow} (hf : ProbeFlow s f) :
    f.Leads (fun t => t.mem = s.mem) fun t => t.mem = s.mem := by
  cases hf with
  | unreadable k => rfl
  | unrecognized x => rfl
  | starts ws _ _ => rfl

theorem walkRunRule_fileKept (s : State) : (walkRunRule s).Leads (FileKept s.mem) (FileKept s.mem) :=
  walkRunRule_leads ((walkProbeRule_flow s).mem.mono (fun _ => Or.inl) fun _ => Or.inl) fun _ ht =>
    examineAt_fileKept ht _

/-- Settles O50: the unit operations but `RPR.REWRITE` and the probe do not write the file, and a block writes it in a
repair, with `RE` = 1. -/
theorem fileChangesOnlyByRepair : Obligations.FileChangesOnlyByRepair := by
  intro i s t he hmem
  have hkept : FileKept s.mem (accept s) := Or.inl rfl
  rcases exec_operation he with ⟨c, rfl⟩ | ⟨o, ho, -, -, -, rfl⟩
  · exact absurd rfl hmem
  · cases i with
    | blockV1 w => cases ho; exact Or.inr ⟨(examineAt_fileKept hkept _).state_self.resolve_left hmem, by simp⟩
    | blockV2 w => cases ho; exact Or.inr ⟨(examineAt_fileKept hkept _).state_self.resolve_left hmem, by simp⟩
    | walkStep => cases ho; exact Or.inr ⟨(examineAt_fileKept hkept _).state_self.resolve_left hmem, by simp⟩
    | walkRun => cases ho; exact Or.inr ⟨(walkRunRule_fileKept (accept s)).state_self.resolve_left hmem, by simp⟩
    | rprRewrite => exact Or.inl rfl
    | walkProbe => cases ho; exact absurd (walkProbeRule_flow (accept s)).mem.state_self hmem
    | crcBuild => cases ho; exact absurd rfl hmem
    | crcCompute => cases ho; exact absurd rfl hmem
    | hcsCompute => cases ho; exact absurd rfl hmem
    | hdrDec1 => cases ho; exact absurd rfl hmem
    | hdrDec2 => cases ho; exact absurd rfl hmem
    | hdrVsig => cases ho; exact absurd rfl hmem
    | hdrEnc => cases ho; exact absurd rfl hmem
    | _ => cases ho

end Sys2Proof.Machine
end

section
/-! The instruction words: the header codec as the layout of the front of a byte sequence, and the decoder and the
encoder as each other's inverses (O11, O12, O13). -/

namespace Sys2Proof.Machine

/-! ### Fields and their bytes -/

/-- A 16-bit field is written as the two bytes it was read from (R9). -/
theorem bytes16_le16 (B : List Byte) (o : Nat) : bytes16 (le16 B o) = [byteAt B o, byteAt B (o + 1)] := by
  simp only [bytes16, le16, List.cons.injEq, and_true]
  constructor <;> ext i hi <;> simp (disch := omega) [hi]

/-- A 32-bit field is written as the four bytes it was read from: each of its bits lies in one of them (R9). -/
theorem bytes32_le32 (B : List Byte) (o : Nat) :
    bytes32 (le32 B o) = [byteAt B o, byteAt B (o + 1), byteAt B (o + 2), byteAt B (o + 3)] := by
  simp only [bytes32, le32, List.cons.injEq, and_true]
  refine ⟨?_, ?_, ?_, ?_⟩ <;> ext i hi <;>
    simp (disch := omega) [hi, BitVec.getLsbD_of_ge, decide_eq_true, decide_eq_false]

/-- The first two of four bytes are the low half of the field (R9). -/
theorem setWidth_le32 (B : List Byte) (o : Nat) : (le32 B o).setWidth 16 = le16 B o := by
  ext i hi
  simp (disch := omega) [le32, le16]

/-- No bytes carry both signatures (R95). -/
theorem le32_ne_sigV2 {B : List Byte} (h : le16 B 0 = sigV1) : le32 B 0 ≠ sigV2 := by
  intro h2
  rw [← setWidth_le32, h2] at h
  exact absurd h (by decide)

theorem le16_append_left {A : List Byte} (B : List Byte) {o : Nat} (h : o + 1 < A.length) :
    le16 (A ++ B) o = le16 A o := by
  simp (disch := omega) only [le16, byteAt_append_left]

theorem le32_append_left {A : List Byte} (B : List Byte) {o : Nat} (h : o + 3 < A.length) :
    le32 (A ++ B) o = le32 A o := by
  simp (disch := omega) only [le32, byteAt_append_left]

/-- The front of a sequence, byte by byte. -/
theorem take_eq_map_byteAt {B : List Byte} {n : Nat} (h : n ≤ B.length) :
    B.take n = (List.range n).map (byteAt B) := by
  apply List.ext_getElem
  · simp [h]
  · intro k hk _
    have hkB : k < B.length := by simp at hk; omega
    simp [byteAt, hkB]

/-! ### The header codec -/

/-- What stands behind a header is not looked at (R184). -/
theorem decV1_append {A : List Byte} (hA : 20 ≤ A.length) (B : List Byte) : decV1 (A ++ B) = decV1 A := by
  have hAB : 20 ≤ (A ++ B).length := by rw [List.length_append]; omega
  rw [decV1, decV1, sizeV1, if_neg hAB.not_gt, if_neg hA.not_gt]
  simp (disch := omega) only [le16_append_left, le32_append_left, byteAt_append_left]

theorem decV2_append {A : List Byte} (hA : 24 ≤ A.length) (B : List Byte) : decV2 (A ++ B) = decV2 A := by
  have hAB : 24 ≤ (A ++ B).length := by rw [List.length_append]; omega
  rw [decV2, decV2, sizeV2, if_neg hAB.not_gt, if_neg hA.not_gt]
  simp (disch := omega) only [le16_append_left, le32_append_left, byteAt_append_left]

/-- The bytes a V1 header was decoded from are its encoding (R187). -/
theorem take_of_decV1 {B : List Byte} {h : HeaderV1} (hd : decV1 B = some h) : B.take sizeV1 = encV1 h := by
  unfold decV1 at hd
  split_ifs at hd with hlen
  cases hd
  rw [take_eq_map_byteAt (Nat.le_of_not_lt hlen)]
  simp only [encV1, bytes16_le16, bytes32_le32]
  rfl

theorem take_of_decV2 {B : List Byte} {h : HeaderV2} (hd : decV2 B = some h) : B.take sizeV2 = encV2 h := by
  unfold decV2 at hd
  split_ifs at hd with hlen
  cases hd
  rw [take_eq_map_byteAt (Nat.le_of_not_lt hlen)]
  simp only [encV2, bytes16_le16, bytes32_le32]
  rfl

/-- A sequence decodes to a V1 header exactly where its front is that header's encoding (R184, R187). -/
theorem decV1_eq_some_iff {B : List Byte} {h : HeaderV1} : decV1 B = some h ↔ ∃ tail, B = encV1 h ++ tail := by
  constructor
  · intro hd
    exact ⟨B.drop sizeV1, by rw [← take_of_decV1 hd, List.take_append_drop]⟩
  · rintro ⟨tail, rfl⟩
    rw [decV1_append (encV1_length h).ge, decV1_encV1]

theorem decV2_eq_some_iff {B : List Byte} {h : HeaderV2} : decV2 B = some h ↔ ∃ tail, B = encV2 h ++ tail := by
  constructor
  · intro hd
    exact ⟨B.drop sizeV2, by rw [← take_of_decV2 hd, List.take_append_drop]⟩
  · rintro ⟨tail, rfl⟩
    rw [decV2_append (encV2_length h).ge, decV2_encV2]

/-- The signature stands first (R92). -/
theorem le16_encV1_append (h : HeaderV1) (tail : List Byte) : le16 (encV1 h ++ tail) 0 = h.signature :=
  half_of_bytes _

theorem le32_encV2_append (h : HeaderV2) (tail : List Byte) : le32 (encV2 h ++ tail) 0 = h.signature :=
  word_of_bytes _

theorem wellFormedV1_iff {h : HeaderV1} : h.wellFormed = true ↔ h.signature = sigV1 := beq_iff_eq

theorem wellFormedV2_iff {h : HeaderV2} : h.wellFormed = true ↔ h.signature = sigV2 := beq_iff_eq

/-! ### The words -/

/-- The decoder reads a V1 header word exactly where a well-formed V1 header stands in front (R92, R95, R97). -/
theorem decode_eq_blockV1_iff {B : List Byte} {h : HeaderV1} :
    decode (.header B) = .ok (.blockV1 h) ↔ h.wellFormed = true ∧ ∃ tail, B = encV1 h ++ tail := by
  rw [wellFormedV1_iff]
  constructor
  · intro hd
    obtain ⟨tail, rfl⟩ := decV1_eq_some_iff.1 (decV1_of_decodeHeader hd)
    simp only [decode, decodeHeader, le16_encV1_append] at hd
    split_ifs at hd with _ _ hsig
    · split at hd <;> cases hd
    · exact ⟨hsig, tail, rfl⟩
  · rintro ⟨hsig, tail, rfl⟩
    have hlow : le16 (encV1 h ++ tail) 0 = sigV1 := (le16_encV1_append h tail).trans hsig
    rw [decode, decodeHeader, if_neg (by simp [sizeV1]), if_neg (le32_ne_sigV2 hlow), if_pos hlow,
      decV1_eq_some_iff.2 ⟨tail, rfl⟩]

/-- The same of a V2 header word (R93, R95, R97). -/
theorem decode_eq_blockV2_iff {B : List Byte} {h : HeaderV2} :
    decode (.header B) = .ok (.blockV2 h) ↔ h.wellFormed = true ∧ ∃ tail, B = encV2 h ++ tail := by
  rw [wellFormedV2_iff]
  constructor
  · intro hd
    obtain ⟨tail, rfl⟩ := decV2_eq_some_iff.1 (decV2_of_decodeHeader hd)
    simp only [decode, decodeHeader, le32_encV2_append] at hd
    split_ifs at hd with _ hsig
    · exact ⟨hsig, tail, rfl⟩
    · split at hd <;> cases hd
  · rintro ⟨hsig, tail, rfl⟩
    have hfirst : le32 (encV2 h ++ tail) 0 = sigV2 := (le32_encV2_append h tail).trans hsig
    have hlen : ¬ (encV2 h ++ tail).length < sizeV1 := by simp [sizeV1]; omega
    rw [decode, decodeHeader, if_neg hlen, if_pos hfirst, decV2_eq_some_iff.2 ⟨tail, rfl⟩]

/-- A header word decodes to a block or not at all (R90). -/
theorem decode_header_cases {B : List Byte} {i : Instr} (hd : decode (.header B) = .ok i) :
    (∃ h, i = .blockV1 h) ∨ ∃ h, i = .blockV2 h := by
  simp only [decode, decodeHeader] at hd
  split_ifs at hd
  · split at hd <;> cases hd
    exact Or.inr ⟨_, rfl⟩
  · split at hd <;> cases hd
    exact Or.inl ⟨_, rfl⟩

theorem encode_decodeCode (c : BitVec 4) : encode (decodeCode c) = .code c := by
  revert c; decide

/-- A code word decodes to the instruction it is the code of (R105, R106). -/
theorem decode_encode_of_code {i : Instr} {c : BitVec 4} (h : encode i = .code c) : decode (encode i) = .ok i := by
  cases i with
  | blockV1 w => cases h
  | blockV2 w => cases h
  | _ => rfl

/-- A header word decodes to its block with any tail behind it (R97). -/
theorem decode_append_of_encode {i : Instr} (hi : i.wellFormed = true) {B : List Byte} (hB : encode i = .header B)
    (tail : List Byte) : decode (.header (B ++ tail)) = .ok i := by
  cases i with
  | blockV1 h => cases hB; exact decode_eq_blockV1_iff.2 ⟨hi, tail, rfl⟩
  | blockV2 h => cases hB; exact decode_eq_blockV2_iff.2 ⟨hi, tail, rfl⟩
  | _ => cases hB

/-- Settles O12: a code word by the table of codes; a header word by what the decoder reads, with and without a tail. -/
theorem decodeReadsBackEveryEncodedInstruction : Obligations.DecodeReadsBackEveryEncodedInstruction := by
  intro i hi
  refine ⟨?_, fun B tail hB => decode_append_of_encode hi hB tail⟩
  cases hw : encode i with
  | code c => rw [← hw]; exact decode_encode_of_code hw
  | header B => simpa using decode_append_of_encode hi hw []

/-- Settles O13: the header in front of the bytes is the one `decode` answers with. -/
theorem encodeWritesBackEveryDecodedWord : Obligations.EncodeWritesBackEveryDecodedWord := by
  refine ⟨encode_decodeCode, fun B i hd => ?_⟩
  rcases decode_header_cases hd with ⟨h, rfl⟩ | ⟨h, rfl⟩
  · obtain ⟨hwf, tail, hB⟩ := decode_eq_blockV1_iff.1 hd
    exact ⟨hwf, encV1 h, tail, hB, rfl⟩
  · obtain ⟨hwf, tail, hB⟩ := decode_eq_blockV2_iff.1 hd
    exact ⟨hwf, encV2 h, tail, hB, rfl⟩

/-- A header row of the table decodes to the well-formed block whose encoding its bytes begin with (R91). -/
theorem decodeTableWord_of_encode {i : Instr} (hi : i.wellFormed = true) {nbits w : Nat} (hrow : 8 < nbits)
    {B tail : List Byte} (hB : encode i = .header B) (hw : bytesOfWord sizeV2 w = B ++ tail) :
    decodeTableWord nbits w = some i := by
  have hcode : isCodeRow nbits = false := by simp [isCodeRow, hrow]
  simp [decodeTableWord, hcode, hw, decode_append_of_encode hi hB]

/-- Settles O11: the header rows are the encodings of their blocks, the V1 header with four zero bytes behind it. -/
theorem wordsOfTheTableDecode : Obligations.WordsOfTheTableDecode := by
  refine ⟨rfl, rfl, rfl, rfl, rfl, rfl, rfl, ?_, ?_, by decide⟩
  · exact decodeTableWord_of_encode (tail := List.replicate 4 0#8) rfl (by decide) rfl (by decide)
  · exact decodeTableWord_of_encode (tail := []) rfl (by decide) rfl (by decide)

end Sys2Proof.Machine
end

section
/-! The refusals that need no look at the operands: reserved codes and commands outside their states (O7, O10). -/

namespace Sys2Proof.Machine

theorem unitAccepts_eq (ws : WalkState) :
    unitAccepts ws = (ws == .idle || ws == .stoppedClean || ws == .stoppedError) := by
  cases ws <;> rfl

theorem startAccepts_eq (ws : WalkState) : startAccepts ws = (ws == .idle) := by cases ws <;> rfl

theorem scanAccepts_eq (ws : WalkState) : scanAccepts ws = (ws == .scanningV1 || ws == .scanningV2) := by
  cases ws <;> rfl

/-- The states in which an operation is accepted are its row of R107. -/
theorem operationOf_accepts {i : Instr} {o : Operation} (ho : operationOf i = some o) (ws : WalkState) :
    o.accepts ws = admits i ws := by
  cases i with
  | blockV1 w => cases ho; exact scanAccepts_eq ws
  | blockV2 w => cases ho; exact scanAccepts_eq ws
  | crcBuild => cases ho; exact unitAccepts_eq ws
  | crcCompute => cases ho; exact unitAccepts_eq ws
  | hcsCompute => cases ho; exact unitAccepts_eq ws
  | hdrDec1 => cases ho; exact unitAccepts_eq ws
  | hdrDec2 => cases ho; exact unitAccepts_eq ws
  | hdrVsig => cases ho; exact unitAccepts_eq ws
  | hdrEnc => cases ho; exact unitAccepts_eq ws
  | walkProbe => cases ho; exact startAccepts_eq ws
  | walkStep => cases ho; exact scanAccepts_eq ws
  | walkRun => cases ho; exact startAccepts_eq ws
  | rprRewrite => cases ho; exact unitAccepts_eq ws
  | _ => cases ho

/-- The reserved codes are the instructions without an operation (R106). -/
theorem operationOf_eq_none_iff {i : Instr} : operationOf i = none ↔ isReserved i = true := by
  cases i <;> simp [operationOf, isReserved]

/-- Settles O7: the row of R107 is what the command tests after `BUSY`. -/
theorem commandsOutsideTheirStatesAreRefused : Obligations.CommandsOutsideTheirStatesAreRefused := by
  intro i s hb hres hadm
  rw [exec_eq]
  cases ho : operationOf i with
  | none => simp [operationOf_eq_none_iff.1 ho] at hres
  | some o => exact command_refState hb ((operationOf_accepts ho s.ws).trans hadm) o.unready o.rule

/-- A reserved code is refused with `REF_BADOP` (R106, R289). -/
theorem exec_reserved {i : Instr} {s : State} (hi : isReserved i = true) (hb : s.busy = false) :
    exec i s = .next (refuse .refBadOp s) := by
  rw [exec_eq, operationOf_eq_none_iff.2 hi]
  simp [reservedCode, hb]

/-- The five codes without an operation (R106). -/
theorem isReserved_decodeCode {c : BitVec 4} (hc : c = 0x0#4 ∨ c = 0xC#4 ∨ c = 0xD#4 ∨ c = 0xE#4 ∨ c = 0xF#4) :
    isReserved (decodeCode c) = true := by
  rcases hc with rfl | rfl | rfl | rfl | rfl <;> rfl

/-- Settles O10: a reserved code is not `WALK.STEP`, so the step runs the reserved instruction itself. -/
theorem reservedCodesAreRefused : Obligations.ReservedCodesAreRefused := by
  refine ⟨fun s hb => ⟨exec_reserved rfl hb, exec_reserved rfl hb, exec_reserved rfl hb, exec_reserved rfl hb,
    exec_reserved rfl hb⟩, fun s c rest hb hc hin => ?_⟩
  have hres := isReserved_decodeCode hc
  have hne : decodeCode c ≠ .walkStep := fun h => by simp [h, isReserved] at hres
  rw [step_command hin, BitVec.ofNat_toNat, BitVec.setWidth_eq, instrForCode_eq_decodeCode (Or.inl hne)]
  exact exec_reserved hres hb

end Sys2Proof.Machine
end

section
/-! The header word at the cursor: `WALK.STEP` is the examination of the block it stands for (O16), and a header of the
other format is a bad signature (O35). -/

namespace Sys2Proof.Machine

/-! ### Stream reads in parts -/

theorem memRead_take (m : List Host.Cell) (a n k : Nat) : (memRead m a n).take k = memRead m a (min k n) := by
  rw [memRead, memRead, ← List.map_take, List.take_range]

/-- A shorter stream read returns the front of a longer one (R64). -/
theorem streamBytes_take (m : List Host.Cell) (len cur : Nat) {k n : Nat} (h : k ≤ n) :
    (streamBytes m len cur n).take k = streamBytes m len cur k := by
  have hcount : min k (streamCount len cur n) = streamCount len cur k := by
    unfold streamCount
    split_ifs <;> omega
  rw [streamBytes, memRead_take, hcount, streamBytes]

/-- A stream read is the stream read of its first bytes, then of those behind them (R64). -/
theorem streamBytes_add (m : List Host.Cell) (len cur n k : Nat) :
    streamBytes m len cur (n + k) = streamBytes m len cur n ++ streamBytes m len (cur + n) k := by
  have hcount : streamCount len cur (n + k) = streamCount len cur n + streamCount len (cur + n) k := by
    unfold streamCount
    split_ifs <;> omega
  have hbehind : streamCount len cur n = n ∨ streamCount len (cur + n) k = 0 := by
    unfold streamCount
    split_ifs <;> omega
  rw [streamBytes, hcount, memRead_add, streamBytes, streamBytes]
  rcases hbehind with h | h <;> simp [h]

/-! ### The block at the cursor -/

/-- Over the word the file holds at the cursor, the header read of a block is the stream read of `WALK.STEP`, whichever
of the mode's header and the word is longer (R215, log 15). -/
theorem headerReadOver_eq_streamBytes {w : List Byte} {s : State}
    (hw : streamBytes s.mem s.fileLen s.cur w.length = w) :
    headerReadOver w s = streamBytes s.mem s.fileLen s.cur (modeSize s.ws) := by
  have hword : w ++ streamBytes s.mem s.fileLen (s.cur + w.length) (modeSize s.ws - w.length) =
      streamBytes s.mem s.fileLen s.cur (w.length + (modeSize s.ws - w.length)) := by rw [streamBytes_add, hw]
  rw [headerReadOver, hword, streamBytes_take _ _ _ (by omega)]

/-- Commands that one row admits and whose rules do the same once accepted are the same. -/
theorem command_congr {rule rule' : State → Flow} {s : State} (h : rule (accept s) = rule' (accept s))
    (acc : WalkState → Bool) (unready : State → Option Cause) :
    command acc unready rule s = command acc unready rule' s := by
  rw [command, command, h]

theorem command_walkStep_eq_block {w : List Byte} {s : State} (hw : streamBytes s.mem s.fileLen s.cur w.length = w) :
    command scanAccepts alwaysReady walkStepRule s = command scanAccepts alwaysReady (blockRule w) s := by
  refine command_congr ?_ scanAccepts alwaysReady
  rw [walkStepRule_eq, blockRule_eq, headerReadOver_eq_streamBytes (s := accept s) hw]

/-- `WALK.STEP` is the block whose V1 header word the file holds at the cursor (R214, R217). -/
theorem exec_walkStep_eq_blockV1 {s : State} {h : HeaderV1} (hh : streamBytes s.mem s.fileLen s.cur 20 = encV1 h) :
    exec .walkStep s = exec (.blockV1 h) s :=
  command_walkStep_eq_block hh

theorem exec_walkStep_eq_blockV2 {s : State} {h : HeaderV2} (hh : streamBytes s.mem s.fileLen s.cur 24 = encV2 h) :
    exec .walkStep s = exec (.blockV2 h) s :=
  command_walkStep_eq_block hh

/-- The block the step fetches is the one the file holds at the cursor (R90, R217). -/
theorem blockAtCursor_eq_some {s : State} {i : Instr} (hi : blockAtCursor s = some i) :
    (∃ h, i = .blockV1 h ∧ streamBytes s.mem s.fileLen s.cur 20 = encV1 h) ∨
      ∃ h, i = .blockV2 h ∧ streamBytes s.mem s.fileLen s.cur 24 = encV2 h := by
  have whole : ∀ n, (streamBytes s.mem s.fileLen s.cur n).take n = streamBytes s.mem s.fileLen s.cur n := fun n =>
    streamBytes_take _ _ _ (Nat.le_refl n)
  unfold blockAtCursor at hi
  split_ifs at hi
  split at hi
  · obtain ⟨h, hd, rfl⟩ := Option.map_eq_some_iff.1 hi
    exact Or.inl ⟨h, rfl, (whole sizeV1).symm.trans (take_of_decV1 hd)⟩
  · obtain ⟨h, hd, rfl⟩ := Option.map_eq_some_iff.1 hi
    exact Or.inr ⟨h, rfl, (whole sizeV2).symm.trans (take_of_decV2 hd)⟩
  all_goals cases hi

/-- Whichever instruction the step fetches for the code of `WALK.STEP`, it is `WALK.STEP` (log 15). -/
theorem exec_instrForCode_walkStep (s : State) : exec (instrForCode 0x9#4 s) s = exec .walkStep s := by
  cases hblock : blockAtCursor s with
  | none => rw [instrForCode_of_none hblock]; rfl
  | some i =>
    have hi : instrForCode 0x9#4 s = i := by
      show (blockAtCursor s).getD .walkStep = i
      rw [hblock]; rfl
    rw [hi]
    rcases blockAtCursor_eq_some hblock with ⟨h, rfl, hh⟩ | ⟨h, rfl, hh⟩
    · exact (exec_walkStep_eq_blockV1 hh).symm
    · exact (exec_walkStep_eq_blockV2 hh).symm

/-- Settles O16: the block's header read is the stream read of `WALK.STEP`. -/
theorem walkStepRunsTheBlockTheFileHolds : Obligations.WalkStepRunsTheBlockTheFileHolds := by
  refine ⟨fun s h => exec_walkStep_eq_blockV1, fun s h => exec_walkStep_eq_blockV2, fun s v w rest hin hv => ?_⟩
  rw [step_command hin, hv]
  exact exec_instrForCode_walkStep _

/-! ### A bad signature -/

/-- S2 on a whole header goes on (R216). -/
theorem loadHeader_whole {n : Nat} {B : List Byte} (hB : 0 < B.length) (hn : n ≤ B.length) (s : State) :
    loadHeader n B s = .goes (loadHb B s) := by
  rcases loadHeader_cases n B s with ⟨h, -⟩ | ⟨-, h, -⟩ | ⟨-, -, h⟩
  · omega
  · omega
  · exact h

/-- S1 to S3 on a whole header whose signature is not the mode's (R216 to R218). -/
theorem examineAt_badSignature {B : List Byte} {s x : State} (hB : 0 < B.length) (hlen : modeSize s.ws ≤ B.length)
    (hx : x = loadHb B { recordOffset s with cur := s.cur + B.length })
    (hsig : signatureOk (decodeByMode x) = false) :
    examineAt B s = .ended (stopError .badSignature (emit (.badSignature x.hoff (decodeByMode x).signature
      (decodeByMode x)) { x with dh := decodeByMode x, incomplete := false, sigok := false })) := by
  have hload : loadHeader (modeSize s.ws) B { recordOffset s with cur := s.cur + B.length } = .goes x := by
    rw [loadHeader_whole hB hlen, hx]
  have hdec := (decodeAndCheck_cases x).resolve_left fun h => by simp [h.1] at hsig
  show (((loadHeader (modeSize s.ws) B _).andThen decodeAndCheck).andThen _).andThen _ = _
  rw [hload, Flow.andThen_goes, hdec.2, Flow.andThen_ended, Flow.andThen_ended]

/-- A block whose header read is a whole header without the mode's signature stops the scan with its cause; the file
and the digest stay, the cursor stands behind the header (R102, R218). -/
theorem exec_block_badSignature {i : Instr} {w B : List Byte} {s : State}
    (ho : operationOf i = some ⟨scanAccepts, alwaysReady, blockRule w⟩) (hb : s.busy = false)
    (hscan : scanAccepts s.ws = true) (hread : headerReadOver w (accept s) = B) (hB : 0 < B.length)
    (hlen : B.length = modeSize s.ws) (hsig : ∀ t, t.ws = s.ws → signatureOk (decodeByMode (loadHb B t)) = false) :
    ∃ t, exec i s = .next t ∧ t.ws = .stoppedError ∧ t.cause = .badSignature ∧ t.sigok = false ∧
      t.mem = s.mem ∧ t.crcout = s.crcout ∧ t.cur = s.cur + modeSize s.ws := by
  have hrule := examineAt_badSignature (s := accept s) hB hlen.ge rfl (hsig _ rfl)
  rw [← hread, ← blockRule_eq] at hrule
  have hexec : exec i s = .next (release (blockRule w (accept s)).state) := exec_accepted ho hb hscan rfl
  rw [hrule] at hexec
  refine ⟨_, hexec, rfl, rfl, rfl, rfl, rfl, ?_⟩
  rw [← hlen, ← hread]
  rfl

/-- A decoded header is the mode's only where its first bytes are the mode's signature (R217, R218). -/
theorem signatureOk_loadHb_v1 {B : List Byte} {s : State} (hw : s.ws = .scanningV1) (hB : B.length = sizeV1)
    (hne : le16 B 0 ≠ sigV1) : signatureOk (decodeByMode (loadHb B s)) = false := by
  have htake : (headerBuffer s.draws B).take sizeV1 = B := by rw [← hB, headerBuffer_take]
  simp [decodeByMode, hw, htake, decV1, hB, DecodedHeader.ofV1, signatureOk, hne]

theorem signatureOk_loadHb_v2 {B : List Byte} {s : State} (hw : s.ws = .scanningV2) (hB : B.length = sizeV2)
    (hne : le32 B 0 ≠ sigV2) : signatureOk (decodeByMode (loadHb B s)) = false := by
  have htake : (headerBuffer s.draws B).take sizeV2 = B := by rw [← hB, headerBuffer_take]
  simp [decodeByMode, hw, htake, decV2, hB, DecodedHeader.ofV2, signatureOk, hne]

/-- In `ScanningV1` the header read over a V2 word is the front of that word. -/
theorem headerReadOver_encV2 {s : State} (hw : s.ws = .scanningV1) (h : HeaderV2) :
    headerReadOver (encV2 h) s = (encV2 h).take sizeV1 := by
  rw [headerReadOver, hw, List.take_append_of_le_length (by rw [encV2_length]; decide)]
  rfl

/-- In `ScanningV2` the header read over a V1 word is that word and the file's next four bytes, where the file has
them. -/
theorem headerReadOver_encV1 {s : State} (hw : s.ws = .scanningV2) (hin : s.cur + 24 ≤ s.fileLen) (h : HeaderV1) :
    headerReadOver (encV1 h) s = encV1 h ++ streamBytes s.mem s.fileLen (s.cur + 20) 4 ∧
      (headerReadOver (encV1 h) s).length = sizeV2 := by
  have hfour : streamCount s.fileLen (s.cur + 20) 4 = 4 := by
    rw [streamCount_of_lt (by omega), min_eq_left (by omega)]
  have hread : headerReadOver (encV1 h) s = encV1 h ++ streamBytes s.mem s.fileLen (s.cur + 20) 4 := by
    rw [headerReadOver, hw]
    exact List.take_of_length_le (by simp [modeSize, sizeV2, hfour])
  exact ⟨hread, by rw [hread]; simp [hfour, sizeV2]⟩

/-- Settles O35: the other format's signature is not the mode's, in its first two bytes already. -/
theorem otherFormatIsABadSignature : Obligations.OtherFormatIsABadSignature := by
  refine ⟨fun s h hb hw hwf => ?_, fun s h hb hw hwf hin => ?_⟩
  · have hsig : le32 (encV2 h) 0 = sigV2 := (word_of_bytes _).trans (wellFormedV2_iff.1 hwf)
    have hne : le16 ((encV2 h).take sizeV1) 0 ≠ sigV1 := fun hv1 => le32_ne_sigV2 (B := encV2 h) hv1 hsig
    have hend := exec_block_badSignature (i := .blockV2 h) rfl hb (by rw [hw]; rfl) (headerReadOver_encV2 hw h)
      (Nat.succ_pos 19) (by rw [hw]; rfl) fun t ht => signatureOk_loadHb_v1 (ht.trans hw) rfl hne
    rwa [hw] at hend
  · obtain ⟨hread, hlen⟩ := headerReadOver_encV1 (s := accept s) hw hin h
    have hne : le32 (headerReadOver (encV1 h) (accept s)) 0 ≠ sigV2 := by
      rw [hread]
      exact le32_ne_sigV2 ((le16_encV1_append h _).trans (wellFormedV1_iff.1 hwf))
    have hend := exec_block_badSignature (i := .blockV1 h) rfl hb (by rw [hw]; rfl) rfl (by rw [hlen]; decide)
      (by rw [hlen, hw]; rfl) fun t ht => signatureOk_loadHb_v2 (ht.trans hw) hlen hne
    rwa [hw] at hend

end Sys2Proof.Machine
end

section
/-! `CRC.BUILD` and `CRC.COMPUTE` as a whole, and the table form of the byte update (O21, O22, O23). -/

namespace Sys2Proof.Machine

/-! ### The refusals of an operation by name (R289) -/

theorem unitAccepts_of_scan_or_fatal {ws : WalkState} (h : ws = .scanningV1 ∨ ws = .scanningV2 ∨ ws = .fatal) :
    unitAccepts ws = false := by
  rcases h with rfl | rfl | rfl <;> rfl

/-- An operation outside the states of its row is refused (R107). -/
theorem exec_refState {i : Instr} {o : Operation} {s : State} (ho : operationOf i = some o) (hb : s.busy = false)
    (ha : o.accepts s.ws = false) : exec i s = .next (refuse .refState s) := by
  rw [exec_eq, ho]
  exact command_refState hb ha o.unready o.rule

/-- An operation that is not ready is refused with its own code (R289). -/
theorem exec_unready {i : Instr} {o : Operation} {s : State} {c : Cause} (ho : operationOf i = some o)
    (hb : s.busy = false) (ha : o.accepts s.ws = true) (hu : o.unready s = some c) :
    exec i s = .next (refuse c s) := by
  rw [exec_eq, ho]
  exact command_unready hb ha hu o.rule

theorem needsTable_eq_refNoTable {s : State} (h : s.tv = false) : needsTable s = some .refNoTable := by
  simp [needsTable, h]

/-! ### `CRC.BUILD` (R133) -/

/-- An accepted `CRC.BUILD` leaves the 256 entries and `TV`. -/
theorem exec_crcBuild {s : State} (hb : s.busy = false) (ha : unitAccepts s.ws = true) :
    exec .crcBuild s = .next (release { accept s with table := builtTable, tv := true }) :=
  exec_accepted (i := .crcBuild) rfl hb ha rfl

/-- Whatever table it found, an accepted `CRC.BUILD` leaves the built one. -/
theorem exec_crcBuild_table {s t : State} (h : exec .crcBuild s = .next t) (hb : s.busy = false)
    (ha : unitAccepts s.ws = true) : t.table = builtTable ∧ t.tv = true := by
  rw [exec_crcBuild hb ha] at h
  cases h
  exact ⟨rfl, rfl⟩

/-- The entry for byte value `i` stands at index `i` (R132). -/
theorem builtTable_getElem? {i : Nat} (hi : i < 256) : builtTable[i]? = some (tbl i) := by
  simp [builtTable, hi]

/-- Settles O21: the first command leaves a core that accepts the second, which writes the same table. -/
theorem crcBuildFillsTheTable : Obligations.CrcBuildFillsTheTable := by
  refine ⟨fun s hb hws => ?_, fun s hb hws => exec_refState rfl hb (unitAccepts_of_scan_or_fatal hws), by decide⟩
  have ha : unitAccepts s.ws = true := unitAccepts_eq_true.2 hws
  refine ⟨_, exec_crcBuild hb ha, rfl, builtTable_length, fun _ => builtTable_getElem?,
    fun _ hu => exec_crcBuild_table hu rfl ha⟩

/-! ### The byte update (R139) -/

/-- Settles O22: the low byte picks the eight iterations of its value from the table, the high bytes are shifted. -/
theorem tableUpdateEqualsEightBitSteps : Obligations.TableUpdateEqualsEightBitSteps :=
  crcUpdate_builtTable

/-! ### `CRC.COMPUTE` (R137) -/

/-- An accepted `CRC.COMPUTE` is a CRC run over the stream. -/
theorem exec_crcCompute {s : State} (hb : s.busy = false) (ha : unitAccepts s.ws = true) (htv : s.tv = true) :
    exec .crcCompute s = .next (release (crcRun (accept s))) :=
  exec_accepted (i := .crcCompute) rfl hb ha (needsTable_eq_none.2 htv)

/-- Settles O23, by the closed form of a CRC run. -/
theorem crcComputeRunsOverTheStream : Obligations.CrcComputeRunsOverTheStream := by
  refine fun s hb => ⟨fun hws htv => ?_, fun hws htv => ?_, fun hws => ?_⟩
  · rw [exec_crcCompute hb (unitAccepts_eq_true.2 hws) htv, crcRun_eq]
    rfl
  · exact exec_unready (i := .crcCompute) rfl hb (unitAccepts_eq_true.2 hws) (needsTable_eq_refNoTable htv)
  · exact exec_refState rfl hb (unitAccepts_of_scan_or_fatal hws)

end Sys2Proof.Machine
end

section
/-! The header checksum: `HCS.COMPUTE` as a whole, what it depends on and what a flipped bit does to it (O25, O26, O27),
and the refusals without a header (O9). -/

namespace Sys2Proof.Machine

/-! ### Not ready: no header (R163, R185, R186, R264) -/

theorem needsWholeV2_eq_refNoHeader {s : State} (h : s.hbn.toNat < 24) : needsWholeV2 s = some .refNoHeader :=
  if_pos h

theorem needsWholeV2_eq_none {s : State} (h : 24 ≤ s.hbn.toNat) : needsWholeV2 s = none := if_neg (Nat.not_lt.2 h)

theorem needsDecoded_eq_refNoHeader {s : State} (h : s.dh = .none) : needsDecoded s = some .refNoHeader := by
  rw [needsDecoded, h]

theorem needsWholeHeader_eq_refNoHeader {s : State} (h : s.hbn.toNat ≠ 20 ∧ s.hbn.toNat ≠ 24) :
    needsWholeHeader s = some .refNoHeader := if_neg (not_or.2 h)

/-- An `HCS.COMPUTE` without a whole V2 header in the buffer is refused (R163). -/
theorem exec_hcsCompute_noHeader {s : State} (hb : s.busy = false) (ha : unitAccepts s.ws = true)
    (hn : s.hbn.toNat < 24) : exec .hcsCompute s = .next (refuse .refNoHeader s) :=
  exec_unready (i := .hcsCompute) rfl hb ha (needsWholeV2_eq_refNoHeader hn)

/-- Settles O9: each of the four operations finds itself not ready in its own way. -/
theorem noHeaderRefusesTheOperationsThatNeedOne : Obligations.NoHeaderRefusesTheOperationsThatNeedOne := by
  intro s hb hws
  have ha : unitAccepts s.ws = true := unitAccepts_eq_true.2 hws
  refine ⟨exec_hcsCompute_noHeader hb ha, fun hdh => ⟨?_, ?_⟩, fun hn => ?_⟩
  · exact exec_unready (i := .hdrVsig) rfl hb ha (needsDecoded_eq_refNoHeader hdh)
  · exact exec_unready (i := .hdrEnc) rfl hb ha (needsDecoded_eq_refNoHeader hdh)
  · exact exec_unready (i := .rprRewrite) rfl hb ha (needsWholeHeader_eq_refNoHeader hn)

/-! ### `HCS.COMPUTE` (R163) -/

/-- An accepted `HCS.COMPUTE` runs over the buffer. -/
theorem exec_hcsCompute {s : State} (hb : s.busy = false) (ha : unitAccepts s.ws = true) (hn : 24 ≤ s.hbn.toNat) :
    exec .hcsCompute s = .next (release (hcsOverHb (accept s))) :=
  exec_accepted (i := .hcsCompute) rfl hb ha (needsWholeV2_eq_none hn)

/-- The 19 bytes of a whole buffer, one by one (R164). -/
theorem checksumRange_eq_map {hb : List Byte} (h : hb.length = 24) :
    checksumRange hb = (List.range 19).map fun k => hb.getD (5 + k) 0#8 := by
  rw [checksumRange, take_eq_map_byteAt (by rw [List.length_drop, h])]
  simp [byteAt, List.getD_eq_getElem?_getD]

theorem checksumRange_ne_nil {hb : List Byte} (h : hb.length = 24) : checksumRange hb ≠ [] := by
  simp [checksumRange_eq_map h]

/-- Settles O25, by the checksum over the buffer in closed form. -/
theorem hcsComputeChecksTheNineteenBytes : Obligations.HcsComputeChecksTheNineteenBytes := by
  refine fun s hb hlen => ⟨fun hws hn => ?_, fun hws hn => ?_, fun hws => ?_⟩
  · rw [exec_hcsCompute hb (unitAccepts_eq_true.2 hws) hn,
      hcsOverHb_eq (s := accept s) (checksumRange_ne_nil hlen), ← checksumRange_eq_map hlen]
    rfl
  · exact exec_hcsCompute_noHeader hb (unitAccepts_eq_true.2 hws) hn
  · exact exec_refState rfl hb (unitAccepts_of_scan_or_fatal hws)

/-! ### What the checksum depends on (R165) -/

/-- Buffers that agree on `HB[5..23]` have the same bytes under the checksum. -/
theorem checksumRange_congr {hb hb' : List Byte} (h : ∀ k, 5 ≤ k → k < 24 → hb[k]? = hb'[k]?) :
    checksumRange hb = checksumRange hb' := by
  refine List.ext_getElem? fun k => ?_
  rw [checksumRange, checksumRange, List.getElem?_take, List.getElem?_take, List.getElem?_drop, List.getElem?_drop]
  split
  · exact h (5 + k) (by omega) (by omega)
  · rfl

/-- The old `DAT` does not enter the checksum. -/
theorem hcsOverHb_hcsout (s : State) : (hcsOverHb s).hcsout = hcs s.params.hcsSeed (checksumRange s.hb) :=
  hcsRun_fst ..

/-- `HCSOUT` after an accepted `HCS.COMPUTE`, from the seed and the buffer. -/
theorem exec_hcsCompute_hcsout {s t : State} (h : exec .hcsCompute s = .next t) (hb : s.busy = false)
    (ha : unitAccepts s.ws = true) (hn : 24 ≤ s.hbn.toNat) :
    t.hcsout = hcs s.params.hcsSeed (checksumRange s.hb) := by
  rw [exec_hcsCompute hb ha hn] at h
  cases h
  exact hcsOverHb_hcsout (accept s)

/-- Settles O26: each run leaves the checksum of its seed and its bytes, which agree. -/
theorem hcsDependsOnTheNineteenBytesAlone : Obligations.HcsDependsOnTheNineteenBytesAlone := by
  intro s s' t t' hb hb' ha ha' hn hn' hseed hbytes he he'
  rw [exec_hcsCompute_hcsout he hb ha hn, exec_hcsCompute_hcsout he' hb' ha' hn', hseed, checksumRange_congr hbytes]

/-! ### A flipped bit (R167) -/

/-- The bit step of R160 on `RES ^ DAT`: the low bit leaves, and `POLY8` enters if it was 1. -/
def hcsIter (c : Byte) : Byte := if c.getLsbD 0 then (c >>> 1) ^^^ poly8 else c >>> 1

/-- The bit step sees `RES` and `DAT` through their exclusive or alone. -/
theorem hcsBitStep_xor (p : Byte × Byte) : (hcsBitStep p).1 ^^^ (hcsBitStep p).2 = hcsIter (p.1 ^^^ p.2) := by
  simp only [hcsBitStep, hcsIter, BitVec.ushiftRight_xor_distrib]
  split
  · ac_rfl
  · rfl

/-- A byte step is eight bit steps on `RES ^ b`: `DAT` is 0 at its end (R161). -/
theorem hcsByteStep_fst (p : Byte × Byte) (b : Byte) : (hcsByteStep p b).1 = hcsIter^[8] (p.1 ^^^ b) := by
  have hxor : (hcsByteStep p b).1 ^^^ (hcsByteStep p b).2 = hcsIter^[8] (p.1 ^^^ b) := by
    simp only [hcsByteStep, hcsBitStep_xor, Function.iterate_succ_apply', Function.iterate_zero_apply]
  rwa [hcsByteStep_snd, BitVec.xor_zero] at hxor

theorem hcs_cons (seed b : Byte) (B : List Byte) : hcs seed (b :: B) = hcs (hcsIter^[8] (seed ^^^ b)) B := by
  rw [← hcsByteStep_fst (seed, 0#8)]
  exact hcsRun_fst _ (hcsByteStep (seed, 0#8) b).2 0#8 B

/-- The top bit of `POLY8` is 1, so the bit that left can be read off the top. -/
theorem hcsIter_getLsbD_top (c : Byte) : (hcsIter c).getLsbD 7 = c.getLsbD 0 := by
  unfold hcsIter
  split
  next h => rw [h, BitVec.getLsbD_xor, BitVec.getLsbD_ushiftRight, c.getLsbD_of_ge _ (by decide)]; rfl
  next h => rw [eq_false_of_ne_true h, BitVec.getLsbD_ushiftRight, c.getLsbD_of_ge _ (by decide)]

/-- No bit is lost in a bit step: seven are shifted, the eighth shows at the top. -/
theorem hcsIter_injective : Function.Injective hcsIter := by
  intro a b h
  have hlow : a.getLsbD 0 = b.getLsbD 0 := by rw [← hcsIter_getLsbD_top, h, hcsIter_getLsbD_top]
  have hshift : a >>> 1 = b >>> 1 := by
    rw [hcsIter, hcsIter, hlow] at h
    split at h
    · exact (BitVec.xor_left_inj _).1 h
    · exact h
  refine BitVec.eq_of_getLsbD_eq fun i _ => ?_
  cases i with
  | zero => exact hlow
  | succ i => simpa [Nat.add_comm] using congrArg (·.getLsbD i) hshift

/-- Over one byte sequence, different seeds leave different checksums. -/
theorem hcs_seed_injective (B : List Byte) : Function.Injective (hcs · B) := by
  induction B with
  | nil => exact fun _ _ h => h
  | cons b B ih =>
    intro seed seed' h
    simp only [hcs_cons] at h
    exact (BitVec.xor_left_inj b).1 (hcsIter_injective.iterate 8 (ih h))

theorem flipBit_cons_zero (b : Byte) (B : List Byte) (j : Nat) : flipBit (b :: B) 0 j = (b ^^^ (1#8 <<< j)) :: B := rfl

theorem flipBit_cons_succ (b : Byte) (B : List Byte) (k j : Nat) :
    flipBit (b :: B) (k + 1) j = b :: flipBit B k j := rfl

theorem xor_flip_ne (b : Byte) {j : Nat} (hj : j < 8) : b ^^^ (1#8 <<< j) ≠ b := by
  intro h
  simpa [hj] using congrArg (·.getLsbD j) h

/-- Settles O27: the flipped byte leaves another `RES` behind it, which the bytes after it keep apart. -/
theorem singleBitFlipChangesTheChecksum : Obligations.SingleBitFlipChangesTheChecksum := by
  intro seed B k j hk hj
  induction B generalizing seed k with
  | nil => exact absurd hk (Nat.not_lt_zero k)
  | cons b B ih =>
    cases k with
    | zero =>
      intro h
      rw [flipBit_cons_zero, hcs_cons, hcs_cons] at h
      have hres : seed ^^^ (b ^^^ (1#8 <<< j)) = seed ^^^ b := hcsIter_injective.iterate 8 (hcs_seed_injective B h)
      exact xor_flip_ne b hj ((BitVec.xor_right_inj seed).1 hres)
    | succ k =>
      rw [flipBit_cons_succ, hcs_cons, hcs_cons]
      exact ih _ k (Nat.lt_of_succ_lt_succ hk)

end Sys2Proof.Machine
end

section
/-! The header codec: the round trips of a header's bytes and fields, and the four operations on the header buffer as a
whole (O14, O28 to O31). -/

namespace Sys2Proof.Machine

/-! ### The round trip (R187) -/

/-- Twenty bytes that decode are the encoding of what they decode to. -/
theorem encV1_of_decV1 {B : List Byte} {h : HeaderV1} (hd : decV1 B = some h) (hlen : B.length = 20) : encV1 h = B := by
  rw [← take_of_decV1 hd]
  exact List.take_of_length_le hlen.le

theorem encV2_of_decV2 {B : List Byte} {h : HeaderV2} (hd : decV2 B = some h) (hlen : B.length = 24) : encV2 h = B := by
  rw [← take_of_decV2 hd]
  exact List.take_of_length_le hlen.le

/-- The fields of a V1 header stand in the bytes by the layout of R181. -/
theorem decV1_eq_layout {B : List Byte} (h : 20 ≤ B.length) :
    decV1 B = some ⟨le16 B 0, byteAt B 2, byteAt B 3, le32 B 4, le32 B 8, le32 B 12, le32 B 16⟩ :=
  if_neg (Nat.not_lt.2 h)

theorem decV2_eq_layout {B : List Byte} (h : 24 ≤ B.length) :
    decV2 B = some ⟨le32 B 0, byteAt B 4, byteAt B 5, le16 B 6, le32 B 8, le32 B 12, le32 B 16, le16 B 20, le16 B 22⟩ :=
  if_neg (Nat.not_lt.2 h)

/-- Settles O14: bytes of the header's size decode, and encoding and decoding undo each other. -/
theorem headerCodecRoundTrips : Obligations.HeaderCodecRoundTrips := by
  refine ⟨fun B hlen => ?_, fun B hlen => ?_, decV1_encV1, decV2_encV2⟩
  · have hd := decV1_eq_layout hlen.ge
    rw [hd, Option.map_some, encV1_of_decV1 hd hlen]
  · have hd := decV2_eq_layout hlen.ge
    rw [hd, Option.map_some, encV2_of_decV2 hd hlen]

/-! ### `HDR.DEC1` and `HDR.DEC2` (R182, R183) -/

/-- As many bytes are valid as `HBN` says (R26). -/
theorem validHeader_length {s : State} (hlen : s.hb.length = 24) (hn : s.hbn.toNat ≤ 24) :
    (validHeader s).length = s.hbn.toNat := by
  rw [validHeader, List.length_take, hlen, Nat.min_eq_left hn]

/-- Fewer than 20 valid bytes are no V1 header. -/
theorem decV1_validHeader_eq_none {s : State} (h : s.hbn.toNat < 20) : decV1 (validHeader s) = none :=
  if_pos ((List.length_take_le ..).trans_lt h)

theorem decV2_validHeader_eq_none {s : State} (h : s.hbn.toNat < 24) : decV2 (validHeader s) = none :=
  if_pos ((List.length_take_le ..).trans_lt h)

/-- With a header's bytes valid, the bytes beyond them do not enter its fields (R184). -/
theorem decV1_validHeader {s : State} (hlen : s.hb.length = 24) (hn : s.hbn.toNat ≤ 24) (h : 20 ≤ s.hbn.toNat) :
    decV1 (validHeader s) = decV1 s.hb := by
  have hvalid : 20 ≤ (validHeader s).length := by rwa [validHeader_length hlen hn]
  rw [← decV1_append hvalid (s.hb.drop s.hbn.toNat), validHeader, List.take_append_drop]

theorem decV2_validHeader {s : State} (hlen : s.hb.length = 24) (hn : s.hbn.toNat ≤ 24) (h : 24 ≤ s.hbn.toNat) :
    decV2 (validHeader s) = decV2 s.hb := by
  have hvalid : 24 ≤ (validHeader s).length := by rwa [validHeader_length hlen hn]
  rw [← decV2_append hvalid (s.hb.drop s.hbn.toNat), validHeader, List.take_append_drop]

/-- An accepted `HDR.DEC1` writes `INCOMPLETE` and `DH` from the valid bytes. -/
theorem exec_hdrDec1 {s : State} (hb : s.busy = false) (ha : unitAccepts s.ws = true) :
    exec .hdrDec1 s = .next { accept s with
      busy := false
      incomplete := (decV1 (validHeader s)).isNone
      dh := .ofV1 (decV1 (validHeader s)) } :=
  exec_accepted (i := .hdrDec1) rfl hb ha rfl

theorem exec_hdrDec2 {s : State} (hb : s.busy = false) (ha : unitAccepts s.ws = true) :
    exec .hdrDec2 s = .next { accept s with
      busy := false
      incomplete := (decV2 (validHeader s)).isNone
      dh := .ofV2 (decV2 (validHeader s)) } :=
  exec_accepted (i := .hdrDec2) rfl hb ha rfl

/-- Settles O28: below 20 valid bytes nothing decodes; from 20 on the buffer's first bytes do. -/
theorem hdrDec1DecodesTheBuffer : Obligations.HdrDec1DecodesTheBuffer := by
  refine fun s hb hlen hn => ⟨fun hws => ⟨fun hshort => ?_, fun hwhole => ?_⟩, fun hws => ?_⟩
  · rw [exec_hdrDec1 hb (unitAccepts_eq_true.2 hws), decV1_validHeader_eq_none hshort]
    rfl
  · rw [exec_hdrDec1 hb (unitAccepts_eq_true.2 hws), decV1_validHeader hlen hn hwhole, decV1_eq_layout (by omega)]
    rfl
  · exact exec_refState rfl hb (unitAccepts_of_scan_or_fatal hws)

/-- Settles O29, as O28 with the 24 bytes of a V2 header. -/
theorem hdrDec2DecodesTheBuffer : Obligations.HdrDec2DecodesTheBuffer := by
  refine fun s hb hlen hn => ⟨fun hws => ⟨fun hshort => ?_, fun hwhole => ?_⟩, fun hws => ?_⟩
  · rw [exec_hdrDec2 hb (unitAccepts_eq_true.2 hws), decV2_validHeader_eq_none hshort]
    rfl
  · rw [exec_hdrDec2 hb (unitAccepts_eq_true.2 hws), decV2_validHeader hlen hn hwhole, decV2_eq_layout hlen.ge]
    rfl
  · exact exec_refState rfl hb (unitAccepts_of_scan_or_fatal hws)

/-! ### `HDR.VSIG` and `HDR.ENC` (R185, R186) -/

theorem needsDecoded_eq_none {s : State} (h : s.dh ≠ .none) : needsDecoded s = none := by
  unfold needsDecoded
  split
  next hnone => exact absurd hnone h
  all_goals rfl

/-- An accepted `HDR.VSIG` writes `SIGOK` from the decoded header. -/
theorem exec_hdrVsig {s : State} (hb : s.busy = false) (ha : unitAccepts s.ws = true) (hdh : s.dh ≠ .none) :
    exec .hdrVsig s = .next { accept s with busy := false, sigok := signatureOk s.dh } :=
  exec_accepted (i := .hdrVsig) rfl hb ha (needsDecoded_eq_none hdh)

/-- An accepted `HDR.ENC` loads the header buffer with the decoded header's bytes. -/
theorem exec_hdrEnc {s : State} (hb : s.busy = false) (ha : unitAccepts s.ws = true) (hdh : s.dh ≠ .none) :
    exec .hdrEnc s = .next (release (loadHb s.dh.bytes (accept s))) :=
  exec_accepted (i := .hdrEnc) rfl hb ha (needsDecoded_eq_none hdh)

/-- Settles O30: the compare is `signatureOk` under the tag that stands. -/
theorem hdrVsigComparesTheSignature : Obligations.HdrVsigComparesTheSignature := by
  refine fun s hb => ⟨fun hws => ?_, fun hws => exec_refState rfl hb (unitAccepts_of_scan_or_fatal hws)⟩
  have ha : unitAccepts s.ws = true := unitAccepts_eq_true.2 hws
  obtain ⟨-, hrefused, -⟩ := noHeaderRefusesTheOperationsThatNeedOne s hb hws
  refine ⟨fun hdh => (hrefused hdh).1, fun h hdh => ?_, fun h hdh => ?_⟩
  · rw [exec_hdrVsig hb ha (by simp [hdh]), hdh]
    rfl
  · rw [exec_hdrVsig hb ha (by simp [hdh]), hdh]
    rfl

/-- Settles O31: a V1 header's 20 bytes stand in front of the buffer, a V2 header's 24 bytes fill it. -/
theorem hdrEncEncodesTheHeader : Obligations.HdrEncEncodesTheHeader := by
  refine fun s hb => ⟨fun hws => ?_, fun hws => exec_refState rfl hb (unitAccepts_of_scan_or_fatal hws)⟩
  have ha : unitAccepts s.ws = true := unitAccepts_eq_true.2 hws
  obtain ⟨-, hrefused, -⟩ := noHeaderRefusesTheOperationsThatNeedOne s hb hws
  refine ⟨fun hdh => (hrefused hdh).2, fun h hdh => ?_, fun h hdh => ?_⟩
  · have hbytes : s.dh.bytes = encV1 h := by rw [hdh, DecodedHeader.bytes]
    refine ⟨_, exec_hdrEnc hb ha (by simp [hdh]), ?_⟩
    rw [hbytes]
    exact ⟨rfl, headerBuffer_length _ (by simp), headerBuffer_take _ (encV1 h)⟩
  · have hbytes : s.dh.bytes = encV2 h := by rw [hdh, DecodedHeader.bytes]
    refine ⟨_, exec_hdrEnc hb ha (by simp [hdh]), ?_⟩
    rw [hbytes, loadHb_encV2]
    rfl

end Sys2Proof.Machine
end

section
/-! The probe's four outcomes, a header read that ends the scan, and a bad signature in the mode's own format (O32, O33,
O34). -/

namespace Sys2Proof.Machine

/-! ### The probe (R212) -/

/-- An accepted `WALK.PROBE` runs its rule and ends. -/
theorem exec_walkProbe {s : State} (hb : s.busy = false) (hw : s.ws = .idle) (htv : s.tv = true) :
    exec .walkProbe s = .next (release (walkProbeRule (accept s)).state) :=
  exec_accepted (i := .walkProbe) rfl hb (startAccepts_eq_true.2 hw) (needsTable_eq_none.2 htv)

theorem walkProbeRule_unreadable {s : State} (hlen : (probeWindow s).length < s.params.probeMin) :
    walkProbeRule s = .ended (stopError .probeUnreadable
      (emit (.probeUnreadable s.cur (probeWindow s).length) { s with re := s.repairEn })) :=
  if_pos hlen

theorem walkProbeRule_v2 {s : State} (hlen : s.params.probeMin ≤ (probeWindow s).length)
    (hsig : le32 (probeWindow s) 0 = sigV2) :
    walkProbeRule s = .goes { s with re := s.repairEn, ws := .scanningV2 } :=
  (if_neg (Nat.not_lt.2 hlen)).trans (if_pos hsig)

/-- A V1 signature is found after the V2 test, which no window with that signature meets (R95, R212). -/
theorem walkProbeRule_v1 {s : State} (hlen : s.params.probeMin ≤ (probeWindow s).length)
    (hsig : le16 (probeWindow s) 0 = sigV1) :
    walkProbeRule s = .goes { s with re := s.repairEn, ws := .scanningV1 } :=
  (if_neg (Nat.not_lt.2 hlen)).trans ((if_neg (le32_ne_sigV2 hsig)).trans (if_pos hsig))

theorem walkProbeRule_unrecognized {s : State} (hlen : s.params.probeMin ≤ (probeWindow s).length)
    (hne2 : le32 (probeWindow s) 0 ≠ sigV2) (hne1 : le16 (probeWindow s) 0 ≠ sigV1) :
    walkProbeRule s = .ended (stopError .probeUnrecognized
      (emit (.probeUnrecognized s.cur (le32 (probeWindow s) 0)) { s with re := s.repairEn })) :=
  (if_neg (Nat.not_lt.2 hlen)).trans ((if_neg hne2).trans (if_neg hne1))

/-- Settles O32: the rule has one equation per outcome; the window is the statement's, of as many bytes. -/
theorem walkProbePicksTheFormat : Obligations.WalkProbePicksTheFormat := by
  intro s hb hw htv _ n W
  have hlen : (probeWindow (accept s)).length = n := streamBytes_length ..
  rw [exec_walkProbe hb hw htv]
  refine ⟨fun hn => ?_, fun hn hsig => ?_, fun hn hsig => ?_, fun hn hne2 hne1 => ?_⟩
  · rw [walkProbeRule_unreadable (hlen.trans_lt hn), hlen]
    rfl
  · rw [walkProbeRule_v2 (s := accept s) (hn.trans_eq hlen.symm) hsig]
    rfl
  · rw [walkProbeRule_v1 (s := accept s) (hn.trans_eq hlen.symm) hsig]
    rfl
  · rw [walkProbeRule_unrecognized (s := accept s) (hn.trans_eq hlen.symm) hne2 hne1]
    rfl

/-! ### The end of the file (R216) -/

/-- An accepted `WALK.STEP` examines what its header read returns. -/
theorem exec_walkStep {s : State} (hb : s.busy = false) (hscan : scanAccepts s.ws = true) :
    exec .walkStep s =
      .next (release (examineAt (streamBytes s.mem s.fileLen s.cur (modeSize s.ws)) (accept s)).state) :=
  exec_accepted (i := .walkStep) rfl hb hscan rfl

/-- A header read that returns nothing ends the scan cleanly. -/
theorem examineAt_nil (s : State) :
    examineAt [] s = .ended (stopClean (emit (.cleanEnd s.cur) (loadHb [] (recordOffset s)))) := rfl

/-- A header read that returns a part of a header stops the scan. -/
theorem examineAt_incomplete {B : List Byte} {s : State} (hB : 0 < B.length) (hlen : B.length < modeSize s.ws) :
    examineAt B s = .ended (stopError .incompleteHeader { emit (.incompleteHeader s.cur B.length)
      (loadHb B { recordOffset s with cur := s.cur + B.length }) with incomplete := true }) := by
  have hload : loadHeader (modeSize s.ws) B { recordOffset s with cur := s.cur + B.length } = _ :=
    (if_neg hB.ne').trans (if_pos hlen)
  show (((loadHeader (modeSize s.ws) B _).andThen decodeAndCheck).andThen _).andThen _ = _
  rw [hload]
  rfl

/-- Settles O33: the header read returns the bytes left in the file, fewer than a header. -/
theorem walkStepStopsWithoutAWholeHeader : Obligations.WalkStepStopsWithoutAWholeHeader := by
  intro s n hb hmode
  have hscan : scanAccepts s.ws = true := by rcases hmode with ⟨hw, -⟩ | ⟨hw, -⟩ <;> rw [hw] <;> rfl
  have hsize : modeSize s.ws = n := by rcases hmode with ⟨hw, rfl⟩ | ⟨hw, rfl⟩ <;> rw [hw] <;> rfl
  rw [exec_walkStep hb hscan, hsize]
  refine ⟨fun hend => ?_, fun hlt hpart => ?_⟩
  · have hread : streamBytes s.mem s.fileLen s.cur n = [] := by rw [streamBytes, streamCount_of_le hend, memRead_zero]
    rw [hread, examineAt_nil]
    rfl
  · have hread : streamBytes s.mem s.fileLen s.cur n = memRead s.mem s.cur (s.fileLen - s.cur) := by
      rw [streamBytes, streamCount_of_lt hlt, Nat.min_eq_right hpart.le]
    have hcur : s.cur + (s.fileLen - s.cur) = s.fileLen := by omega
    rw [hread, examineAt_incomplete (by rw [memRead_length]; omega) (by rwa [memRead_length, accept_ws, hsize]),
      memRead_length, accept_cur, hcur, loadHb, memRead_length]
    rfl

/-! ### A bad signature in the mode's format (R218) -/

/-- A block whose word is the mode's whole header, but decodes to one with a bad signature: the whole next state. -/
theorem exec_block_badSignature_eq {i : Instr} {w : List Byte} {d : DecodedHeader} {s : State}
    (ho : operationOf i = some ⟨scanAccepts, alwaysReady, blockRule w⟩) (hb : s.busy = false)
    (hscan : scanAccepts s.ws = true) (hw : 0 < w.length) (hlen : w.length = modeSize s.ws)
    (hdec : ∀ t, t.ws = s.ws → decodeByMode (loadHb w t) = d) (hsig : signatureOk d = false) :
    exec i s = .next { loadHb w (accept s) with
      busy := false, hoff := s.cur, cur := s.cur + w.length, dh := d, incomplete := false, sigok := false,
      ws := .stoppedError, cause := .badSignature, exitCode := true,
      rpt := s.rpt ++ [.badSignature s.cur d.signature d] } := by
  have hx : decodeByMode (loadHb w { recordOffset (accept s) with cur := (accept s).cur + w.length }) = d := hdec _ rfl
  have hrule := examineAt_badSignature (s := accept s) hw hlen.ge rfl (by rwa [hx])
  rw [hx] at hrule
  have hexec : exec i s = .next (release (blockRule w (accept s)).state) := exec_accepted ho hb hscan rfl
  rw [hexec, blockRule_eq, headerReadOver_eq (s := accept s) hlen, hrule]
  rfl

/-- Settles O34: the word is the whole header read, and the header it decodes to carries the bad signature. -/
theorem badSignatureStopsTheScan : Obligations.BadSignatureStopsTheScan := by
  refine ⟨fun s h hb hw hsig => ?_, fun s h hb hw hsig => ?_⟩
  · exact exec_block_badSignature_eq (i := .blockV1 h) (d := .v1 h) rfl hb (by rw [hw]; rfl) (Nat.succ_pos 19)
      (by rw [hw]; rfl) (fun t ht => decodeByMode_loadHb_v1 (ht.trans hw) h) (beq_eq_false_iff_ne.2 hsig)
  · have hend := exec_block_badSignature_eq (i := .blockV2 h) (d := .v2 h) rfl hb (by rw [hw]; rfl) (Nat.succ_pos 23)
      (by rw [hw]; rfl) (fun t ht => decodeByMode_loadHb_v2 (ht.trans hw) h) (beq_eq_false_iff_ne.2 hsig)
    rw [loadHb_encV2] at hend
    exact hend

end Sys2Proof.Machine
end

section
/-! A block that needs no repair, as a word and as the block the file holds (O36, O37, O38). -/

namespace Sys2Proof.Machine

/-! ### The end of a block (R223, R224) -/

/-- S10 and the end of the operation are `settled`. -/
theorem release_continueOrStop (x : State) : release (continueOrStop x).state = settled x := by
  rcases continueOrStop_cases x with ⟨hshort, hend⟩ | ⟨hshort, hgo⟩
  · rw [hend, settled, if_pos hshort]
    rfl
  · rw [hgo, settled, if_neg (by simp [hshort])]
    rfl

/-- With repair off, or no mismatch, S9 does nothing (R223, R260). -/
theorem repairBlock_goes {x : State} (h : x.re = false ∨ anyMismatch x = false) : repairBlock x = .goes x := by
  rcases repairBlock_cases x with ⟨-, hgo⟩ | ⟨hyes, -⟩
  · exact hgo
  · obtain ⟨hre, hmismatch⟩ := Bool.and_eq_true_iff.1 hyes
    rcases h with h | h
    · simp [hre] at h
    · simp [hmismatch] at h

/-- A block that needs no repair leaves what its examination left. -/
theorem release_repair_of_none {x : State} (h : x.re = false ∨ anyMismatch x = false) :
    release ((repairBlock x).andThen continueOrStop).state = settled x := by
  rw [repairBlock_goes h, Flow.andThen_goes, release_continueOrStop]

/-! ### The examination as a whole (R214 to R224) -/

/-- Settles O36: the examined block has no mismatch but the shortfall's and the CRC's, or repair is off. -/
theorem blockV1IsExaminedAndReported : Obligations.BlockV1IsExaminedAndReported := by
  intro s h hb hw hsig hnone
  have hrepair : (examinedV1 h s).re = false ∨ anyMismatch (examinedV1 h s) = false :=
    hnone.imp id fun ⟨hshort, hcrc⟩ => by
      rw [anyMismatch, hshort, hcrc]
      rfl
  rw [exec_blockV1 hb hw hsig, release_repair_of_none hrepair]

/-- Settles O37: as O36, with the header checksum's mismatch. -/
theorem blockV2IsExaminedAndReported : Obligations.BlockV2IsExaminedAndReported := by
  intro s h hb hw hsig hnone
  have hrepair : (examinedV2 h s).re = false ∨ anyMismatch (examinedV2 h s) = false :=
    hnone.imp id fun ⟨hshort, hcrc, hhcs⟩ => by
      rw [anyMismatch, hshort, hcrc, hhcs]
      rfl
  rw [exec_blockV2 hb hw hsig, release_repair_of_none hrepair]

/-- A stream read that ends inside the file returns the bytes asked for (R64). -/
theorem streamBytes_inside (m : List Host.Cell) {len cur n : Nat} (h : cur + n ≤ len) :
    streamBytes m len cur n = memRead m cur n := by
  have hcount : streamCount len cur n = n := by
    unfold streamCount
    split_ifs <;> omega
  rw [streamBytes, hcount]

/-- Settles O38: `WALK.STEP` is the block the file holds, which O36 and O37 examine. -/
theorem walkStepExaminesOneBlock : Obligations.WalkStepExaminesOneBlock := by
  refine ⟨fun s h hb hw hre hsig hin hread => ?_, fun s h hb hw hre hsig hin hread => ?_⟩
  · rw [exec_walkStep_eq_blockV1 ((streamBytes_inside s.mem hin).trans hread)]
    exact blockV1IsExaminedAndReported s h hb hw hsig (.inl hre)
  · rw [exec_walkStep_eq_blockV2 ((streamBytes_inside s.mem hin).trans hread)]
    exact blockV2IsExaminedAndReported s h hb hw hsig (.inl hre)

end Sys2Proof.Machine
end

section
/-! A repair that succeeds: what it writes over the block's header and which bytes of the file that can change (O39,
O43). -/

namespace Sys2Proof.Machine

/-! ### The corrected header (R261) -/

/-- A V2 header with its fields corrected, the checksum not yet recomputed (R261). -/
def updatedV2 (p : RepairLenPolicy) (h : HeaderV2) (cnt crc : Word) : HeaderV2 :=
  { h with
    declaredDataCrc32 := crc
    declaredDataLength := match p with
      | .keepDeclared => h.declaredDataLength
      | .writeObserved => cnt }

/-- The corrected V2 header is the updated one with the checksum over its bytes. -/
theorem correctedV2_eq (p : RepairLenPolicy) (seed : Byte) (h : HeaderV2) (cnt crc : Word) :
    correctedV2 p seed h cnt crc =
      { updatedV2 p h cnt crc with headerChecksum := hcs seed ((encV2 (updatedV2 p h cnt crc)).drop 5) } := rfl

theorem correctedHeader_v1 {x : State} {h : HeaderV1} (hdh : x.dh = .v1 h) :
    correctedHeader x = .v1 (correctedV1 x.params.repairLenPolicy h x.cnt x.crcout) := by
  unfold correctedHeader
  rw [hdh]
  cases x.params.repairLenPolicy <;> rfl

theorem correctedHeader_v2 {x : State} {h : HeaderV2} (hdh : x.dh = .v2 h) :
    correctedHeader x = .v2 (updatedV2 x.params.repairLenPolicy h x.cnt x.crcout) := by
  unfold correctedHeader
  rw [hdh]
  cases x.params.repairLenPolicy <;> rfl

/-- The correction of a V1 header puts its 20 bytes in front of the buffer. -/
theorem correctHeader_v1 {x : State} {h h' : HeaderV1} (hdh : x.dh = .v1 h)
    (hh' : h' = correctedV1 x.params.repairLenPolicy h x.cnt x.crcout) :
    correctHeader x = { x with dh := .v1 h', hb := encV1 h' ++ x.hb.drop 20 } := by
  have hfields : correctHeader x = correctFields x := by
    unfold correctHeader
    rw [hdh]
  rw [hfields, correctFields, correctedHeader_v1 hdh, ← hh']
  rfl

/-- The recomputed checksum of a V2 header that fills the buffer enters the header and its fifth byte. -/
theorem recomputeChecksum_v2 {s : State} {u u' : HeaderV2} (hdh : s.dh = .v2 u) (hhb : s.hb = encV2 u)
    (hu' : u' = { u with headerChecksum := hcs s.params.hcsSeed ((encV2 u).drop 5) }) :
    recomputeChecksum s = { s with
      dh := .v2 u', hb := encV2 u', res := u'.headerChecksum, dat := 0#8, hcsout := u'.headerChecksum } := by
  have hrange : checksumRange s.hb = (encV2 u).drop 5 := by rw [hhb]; rfl
  have hsum := hcsOverHb_eq (s := s) (by rw [hrange]; exact List.cons_ne_nil _ _)
  rw [hrange] at hsum
  rw [recomputeChecksum, hsum, hu']
  simp only [hdh, hhb]
  rfl

/-- The correction of a V2 header fills the buffer, and leaves the checksum over the updated bytes. -/
theorem correctHeader_v2 {x : State} {h h' : HeaderV2} (hdh : x.dh = .v2 h) (hlen : x.hb.length = 24)
    (hh' : h' = correctedV2 x.params.repairLenPolicy x.params.hcsSeed h x.cnt x.crcout) :
    correctHeader x = { x with
      dh := .v2 h', hb := encV2 h', res := h'.headerChecksum, dat := 0#8, hcsout := h'.headerChecksum } := by
  have hcorr : correctHeader x = recomputeChecksum (correctFields x) := by
    unfold correctHeader
    rw [hdh]
  have hfields : correctFields x = { x with
      dh := .v2 (updatedV2 x.params.repairLenPolicy h x.cnt x.crcout)
      hb := encV2 (updatedV2 x.params.repairLenPolicy h x.cnt x.crcout) } := by
    rw [correctFields, correctedHeader_v2 hdh, DecodedHeader.bytes, patchHb, encV2_length,
      List.drop_of_length_le hlen.le, List.append_nil]
  rw [hcorr, hfields]
  exact recomputeChecksum_v2 rfl rfl hh'

/-! ### The rewrite that takes place (R263) -/

/-- A rewrite inside the file, with write access and the port's answer `Ok`. -/
theorem rewriteHeader_ok {n : Nat} {s : State} {rest : List PortAnswer} (hin : s.hoff + n ≤ s.fileLen)
    (hans : s.answers = .ok :: rest) :
    rewriteHeader true n s = .goes { s with
      saved := s.cur, answers := rest, mem := memWrite s.mem s.hoff (s.hb.take n) } := by
  simp [rewriteHeader, rewriteAnswer, Nat.not_lt.2 hin, drawAnswer, hans, failedStage]

/-- S9 with repair on, a mismatch, and a rewrite that takes place (R223, R263). -/
theorem repairBlock_writes {x : State} {rest : List PortAnswer} (hre : x.re = true) (hbad : anyMismatch x = true)
    (hacc : x.writeAccess = true) (hans : x.answers = .ok :: rest) (hin : x.hoff + modeSize x.ws ≤ x.fileLen) :
    repairBlock x = .goes { correctHeader x with
      saved := x.cur, answers := rest
      mem := memWrite x.mem x.hoff ((correctHeader x).hb.take (modeSize x.ws)) } := by
  rcases repairBlock_cases x with ⟨hno, -⟩ | ⟨-, hwrite⟩
  · simp [hre, hbad] at hno
  · obtain ⟨dh, hb, res, dat, out, hcorr⟩ := correctHeader_eq x
    rw [hwrite, hcorr]
    show rewriteHeader x.writeAccess _ _ = _
    rw [hacc]
    exact rewriteHeader_ok hin hans

/-- Settles O39: the examined block is repaired, S10 follows; the corrected header's bytes are the front of the
buffer. -/
theorem repairWritesTheCorrectedHeader : Obligations.RepairWritesTheCorrectedHeader := by
  constructor <;> intro s h rest hb hw hsig hre hacc hans hin hbad x h'
  · have hmismatch : anyMismatch x = true := by
      rw [anyMismatch]
      rcases hbad with hbad | hbad <;> simp [x, hbad]
    have hsize : modeSize x.ws = 20 := congrArg modeSize hw
    have hrepair := repairBlock_writes (x := x) hre hmismatch hacc hans (by rw [hsize]; exact hin)
    rw [correctHeader_v1 (x := x) (h' := h') rfl rfl, hsize] at hrepair
    refine ⟨encV1 h' ++ x.hb.drop 20, ?_, rfl, ?_⟩
    · have hlen : x.hb.length = 24 := headerBuffer_length _ (by simp)
      simp [hlen]
    · rw [exec_blockV1 hb hw hsig, hrepair, Flow.andThen_goes, release_continueOrStop]
      rfl
  · have hmismatch : anyMismatch x = true := by
      rw [anyMismatch]
      rcases hbad with hbad | hbad | hbad <;> simp [x, hbad]
    have hsize : modeSize x.ws = 24 := congrArg modeSize hw
    have hrepair := repairBlock_writes (x := x) hre hmismatch hacc hans (by rw [hsize]; exact hin)
    rw [correctHeader_v2 (x := x) (h' := h') rfl rfl rfl, hsize] at hrepair
    rw [exec_blockV2 hb hw hsig, hrepair, Flow.andThen_goes, release_continueOrStop]
    rfl

/-! ### The bytes a correction can change (R262) -/

/-- Where a part of a sequence is replaced by one as long, the bytes outside it stay. -/
theorem getD_append_replaced {A M M' C : List Byte} (hlen : M'.length = M.length) {k : Nat}
    (hk : k < A.length ∨ A.length + M.length ≤ k) :
    (A ++ (M' ++ C)).getD k 0#8 = (A ++ (M ++ C)).getD k 0#8 := by
  simp only [List.getD_eq_getElem?_getD, List.getElem?_append, hlen]
  split_ifs
  · rfl
  · omega
  · rfl

theorem getD_encV1_crc (h : HeaderV1) (c : Word) {k : Nat} (hk : k < 12 ∨ 16 ≤ k) :
    (encV1 { h with declaredDataCrc32 := c }).getD k 0#8 = (encV1 h).getD k 0#8 :=
  getD_append_replaced (A := (encV1 h).take 12) (M := bytes32 h.declaredDataCrc32) (M' := bytes32 c)
    (C := (encV1 h).drop 16) rfl hk

theorem getD_encV1_length (h : HeaderV1) (n : Word) {k : Nat} (hk : k < 8 ∨ 12 ≤ k) :
    (encV1 { h with declaredDataLength := n }).getD k 0#8 = (encV1 h).getD k 0#8 :=
  getD_append_replaced (A := (encV1 h).take 8) (M := bytes32 h.declaredDataLength) (M' := bytes32 n)
    (C := (encV1 h).drop 12) rfl hk

theorem getD_encV2_crc (h : HeaderV2) (c : Word) {k : Nat} (hk : k < 12 ∨ 16 ≤ k) :
    (encV2 { h with declaredDataCrc32 := c }).getD k 0#8 = (encV2 h).getD k 0#8 :=
  getD_append_replaced (A := (encV2 h).take 12) (M := bytes32 h.declaredDataCrc32) (M' := bytes32 c)
    (C := (encV2 h).drop 16) rfl hk

theorem getD_encV2_length (h : HeaderV2) (n : Word) {k : Nat} (hk : k < 16 ∨ 20 ≤ k) :
    (encV2 { h with declaredDataLength := n }).getD k 0#8 = (encV2 h).getD k 0#8 :=
  getD_append_replaced (A := (encV2 h).take 16) (M := bytes32 h.declaredDataLength) (M' := bytes32 n)
    (C := (encV2 h).drop 20) rfl hk

theorem getD_encV2_checksum (h : HeaderV2) (c : Byte) {k : Nat} (hk : k < 4 ∨ 5 ≤ k) :
    (encV2 { h with headerChecksum := c }).getD k 0#8 = (encV2 h).getD k 0#8 :=
  getD_append_replaced (A := (encV2 h).take 4) (M := [h.headerChecksum]) (M' := [c]) (C := (encV2 h).drop 5) rfl hk

/-- Outside the table of R262: the CRC's bytes, and the length's where the correction writes it. -/
theorem correctable_v1_eq_false {w : Bool} {k : Nat} (h : correctable .scanningV1 w k = false) :
    (k < 12 ∨ 16 ≤ k) ∧ (w = true → k < 8 ∨ 12 ≤ k) := by
  cases w <;> simp [correctable] at h ⊢ <;> omega

/-- In V2 the checksum's byte too. -/
theorem correctable_v2_eq_false {w : Bool} {k : Nat} (h : correctable .scanningV2 w k = false) :
    (k < 12 ∨ 16 ≤ k) ∧ (k < 4 ∨ 5 ≤ k) ∧ (w = true → k < 16 ∨ 20 ≤ k) := by
  cases w <;> simp [correctable] at h ⊢ <;> omega

/-- A corrected V1 header differs from the one found in the correctable bytes alone; `w` is whether the length may
change. -/
theorem getD_encV1_corrected {p : RepairLenPolicy} {h : HeaderV1} {cnt crc : Word} {w : Bool} {k : Nat}
    (hlen : w = false → (correctedV1 p h cnt crc).declaredDataLength = h.declaredDataLength)
    (hk : correctable .scanningV1 w k = false) :
    (encV1 (correctedV1 p h cnt crc)).getD k 0#8 = (encV1 h).getD k 0#8 := by
  obtain ⟨hcrc, hlength⟩ := correctable_v1_eq_false hk
  calc (encV1 (correctedV1 p h cnt crc)).getD k 0#8
      = (encV1 { h with declaredDataLength := (correctedV1 p h cnt crc).declaredDataLength }).getD k 0#8 :=
        getD_encV1_crc { h with declaredDataLength := (correctedV1 p h cnt crc).declaredDataLength } crc hcrc
    _ = (encV1 h).getD k 0#8 := by
        cases w with
        | false => rw [hlen rfl]
        | true => exact getD_encV1_length h _ (hlength rfl)

theorem getD_encV2_corrected {p : RepairLenPolicy} {seed : Byte} {h : HeaderV2} {cnt crc : Word} {w : Bool} {k : Nat}
    (hlen : w = false → (updatedV2 p h cnt crc).declaredDataLength = h.declaredDataLength)
    (hk : correctable .scanningV2 w k = false) :
    (encV2 (correctedV2 p seed h cnt crc)).getD k 0#8 = (encV2 h).getD k 0#8 := by
  obtain ⟨hcrc, hsum, hlength⟩ := correctable_v2_eq_false hk
  calc (encV2 (correctedV2 p seed h cnt crc)).getD k 0#8
      = (encV2 (updatedV2 p h cnt crc)).getD k 0#8 := by rw [correctedV2_eq, getD_encV2_checksum _ _ hsum]
    _ = (encV2 { h with declaredDataLength := (updatedV2 p h cnt crc).declaredDataLength }).getD k 0#8 :=
        getD_encV2_crc { h with declaredDataLength := (updatedV2 p h cnt crc).declaredDataLength } crc hcrc
    _ = (encV2 h).getD k 0#8 := by
        cases w with
        | false => rw [hlen rfl]
        | true => exact getD_encV2_length h _ (hlength rfl)

/-- Unless the payload fell short, as many bytes were counted as declared (R220). -/
theorem payloadAt_count_eq {s : State} {n : Nat} {len : Word}
    (h : ¬ BitVec.ofNat 32 (payloadAt s n len).length < len) : BitVec.ofNat 32 (payloadAt s n len).length = len := by
  have hle : (payloadAt s n len).length ≤ len.toNat := by
    rw [payloadAt, streamBytes_length]
    exact streamCount_le ..
  have hlt := len.isLt
  refine BitVec.eq_of_toNat_eq ?_
  rw [BitVec.lt_def, BitVec.toNat_ofNat, Nat.mod_eq_of_lt (by omega)] at h
  rw [BitVec.toNat_ofNat, Nat.mod_eq_of_lt (by omega)]
  omega

/-- Unless `WriteObserved` holds together with `SHORT`, the length is not written or is written as it was (R262). -/
theorem keepsLength_of_count {p : RepairLenPolicy} {s : State} {n : Nat} {len : Word}
    (h : (decide (BitVec.ofNat 32 (payloadAt s n len).length < len) && p == .writeObserved) = false) :
    p = .keepDeclared ∨ BitVec.ofNat 32 (payloadAt s n len).length = len := by
  cases p with
  | keepDeclared => exact .inl rfl
  | writeObserved => exact .inr (payloadAt_count_eq (by simpa using h))

theorem correctedV1_length_eq {p : RepairLenPolicy} {h : HeaderV1} {cnt : Word} (crc : Word)
    (hp : p = .keepDeclared ∨ cnt = h.declaredDataLength) :
    (correctedV1 p h cnt crc).declaredDataLength = h.declaredDataLength := by
  cases p with
  | keepDeclared => rfl
  | writeObserved => exact hp.resolve_left nofun

theorem updatedV2_length_eq {p : RepairLenPolicy} {h : HeaderV2} {cnt : Word} (crc : Word)
    (hp : p = .keepDeclared ∨ cnt = h.declaredDataLength) :
    (updatedV2 p h cnt crc).declaredDataLength = h.declaredDataLength := by
  cases p with
  | keepDeclared => rfl
  | writeObserved => exact hp.resolve_left nofun

/-! ### The file after a `WALK.STEP` (R262, R263) -/

theorem memRead_getD (m : List Host.Cell) (a : Nat) {n k : Nat} (h : k < n) :
    (memRead m a n).getD k 0#8 = memGet m (a + k) := by
  simp [memRead, List.getD_eq_getElem?_getD, h]

/-- A write over bytes read at the same place keeps the bytes it agrees on. -/
theorem memGet_memWrite_of_agree {m : List Host.Cell} (hm : memWf m = true) {cur a : Nat} {B B' : List Byte}
    (hread : memRead m cur B'.length = B) (hagree : cur ≤ a → B'.getD (a - cur) 0#8 = B.getD (a - cur) 0#8) :
    memGet (memWrite m cur B') a = memGet m a := by
  rw [memGet_memWrite hm]
  split_ifs with hin
  · obtain ⟨hlow, hhigh⟩ := hin
    rw [hagree hlow, ← hread, memRead_getD m cur (by omega), Nat.add_sub_cancel' hlow]
  · rfl

@[simp] theorem settled_short (x : State) : (settled x).short = x.short := by
  unfold settled
  split_ifs <;> rfl

@[simp] theorem settled_mem (x : State) : (settled x).mem = x.mem := by
  unfold settled
  split_ifs <;> rfl

/-- What S9 and S10 leave of the file and `SHORT`, where no rewrite failed. -/
theorem release_repair_mem {x t : State} (ht : t = release ((repairBlock x).andThen continueOrStop).state)
    (hfatal : t.ws ≠ .fatal) :
    t.short = x.short ∧
      (t.mem = x.mem ∨ t.mem = memWrite x.mem x.hoff ((correctHeader x).hb.take (modeSize x.ws))) := by
  rcases repairBlock_cases x with ⟨-, hgo⟩ | ⟨-, hwrite⟩
  · rw [hgo, Flow.andThen_goes, release_continueOrStop] at ht
    rw [ht, settled_short, settled_mem]
    exact ⟨rfl, .inl rfl⟩
  · obtain ⟨dh, hb, res, dat, out, hcorr⟩ := correctHeader_eq x
    obtain ⟨ans, d, ⟨-, -, hgo⟩ | ⟨stage, hend⟩⟩ :=
      rewriteHeader_cases (correctHeader x).writeAccess (modeSize (correctHeader x).ws) (correctHeader x)
    · rw [hwrite, hgo, Flow.andThen_goes, release_continueOrStop] at ht
      rw [ht, settled_short, settled_mem, hcorr]
      exact ⟨rfl, .inr rfl⟩
    · rw [hwrite, hend, Flow.andThen_ended] at ht
      exact absurd (by rw [ht]; rfl) hfatal

/-- Bytes of the header's size are the encoding of a header (R187). -/
theorem exists_encV1_eq {B : List Byte} (hlen : B.length = 20) : ∃ h, B = encV1 h :=
  ⟨_, (encV1_of_decV1 (decV1_eq_layout hlen.ge) hlen).symm⟩

theorem exists_encV2_eq {B : List Byte} (hlen : B.length = 24) : ∃ h, B = encV2 h :=
  ⟨_, (encV2_of_decV2 (decV2_eq_layout hlen.ge) hlen).symm⟩

/-- A step without a whole header left in the file leaves the file (R216). -/
theorem exec_walkStep_kept_or_whole {s t : State} {n : Nat} (hb : s.busy = false)
    (hmode : s.ws = .scanningV1 ∧ n = 20 ∨ s.ws = .scanningV2 ∧ n = 24) (he : exec .walkStep s = .next t) :
    t.mem = s.mem ∨ s.cur + n ≤ s.fileLen := by
  obtain ⟨hclean, hpart⟩ := walkStepStopsWithoutAWholeHeader s n hb hmode
  by_cases hend : s.fileLen ≤ s.cur
  · rw [hclean hend] at he
    cases he
    exact .inl rfl
  by_cases hshort : s.fileLen - s.cur < n
  · rw [hpart (Nat.lt_of_not_le hend) hshort] at he
    cases he
    exact .inl rfl
  · exact .inr (by omega)

/-- A step leaves the file, or examines the block whose header, with the right signature, the file holds. -/
theorem exec_walkStep_v1 {s t : State} (hb : s.busy = false) (hw : s.ws = .scanningV1)
    (he : exec .walkStep s = .next t) :
    t.mem = s.mem ∨ ∃ h, memRead s.mem s.cur 20 = encV1 h ∧
      t = release ((repairBlock (examinedV1 h s)).andThen continueOrStop).state := by
  rcases exec_walkStep_kept_or_whole hb (.inl ⟨hw, rfl⟩) he with hkept | hin
  · exact .inl hkept
  · obtain ⟨h, hread⟩ := exists_encV1_eq (memRead_length s.mem s.cur 20)
    rw [exec_walkStep_eq_blockV1 ((streamBytes_inside s.mem hin).trans hread)] at he
    by_cases hsig : h.signature = sigV1
    · rw [exec_blockV1 hb hw hsig] at he
      cases he
      exact .inr ⟨h, hread, rfl⟩
    · rw [badSignatureStopsTheScan.1 s h hb hw hsig] at he
      cases he
      exact .inl rfl

theorem exec_walkStep_v2 {s t : State} (hb : s.busy = false) (hw : s.ws = .scanningV2)
    (he : exec .walkStep s = .next t) :
    t.mem = s.mem ∨ ∃ h, memRead s.mem s.cur 24 = encV2 h ∧
      t = release ((repairBlock (examinedV2 h s)).andThen continueOrStop).state := by
  rcases exec_walkStep_kept_or_whole hb (.inr ⟨hw, rfl⟩) he with hkept | hin
  · exact .inl hkept
  · obtain ⟨h, hread⟩ := exists_encV2_eq (memRead_length s.mem s.cur 24)
    rw [exec_walkStep_eq_blockV2 ((streamBytes_inside s.mem hin).trans hread)] at he
    by_cases hsig : h.signature = sigV2
    · rw [exec_blockV2 hb hw hsig] at he
      cases he
      exact .inr ⟨h, hread, rfl⟩
    · rw [badSignatureStopsTheScan.2 s h hb hw hsig] at he
      cases he
      exact .inl rfl

/-- Settles O43: the one write is the corrected header over the header found, which agree outside the correctable
bytes. -/
theorem repairChangesOnlyCorrectableBytes : Obligations.RepairChangesOnlyCorrectableBytes := by
  intro s t a hb hscan hmem he hfatal ha
  have hk : s.cur ≤ a → correctable s.ws (t.short && s.params.repairLenPolicy == .writeObserved) (a - s.cur) = false :=
    fun hle => ha.resolve_left (Nat.not_lt.2 hle)
  cases hw : s.ws with
  | scanningV1 =>
    rw [hw] at hk
    rcases exec_walkStep_v1 hb hw he with hkept | ⟨h, hread, ht⟩
    · rw [hkept]
    · obtain ⟨hshort, hkept | hwrite⟩ := release_repair_mem ht hfatal
      · rw [hkept]
        rfl
      · rw [correctHeader_v1 (x := examinedV1 h s) rfl rfl, show modeSize (examinedV1 h s).ws = 20 from congrArg _ hw]
          at hwrite
        rw [hshort] at hk
        rw [hwrite]
        exact memGet_memWrite_of_agree hmem hread fun hle =>
          getD_encV1_corrected (fun hno => correctedV1_length_eq _ (keepsLength_of_count hno)) (hk hle)
  | scanningV2 =>
    rw [hw] at hk
    rcases exec_walkStep_v2 hb hw he with hkept | ⟨h, hread, ht⟩
    · rw [hkept]
    · obtain ⟨hshort, hkept | hwrite⟩ := release_repair_mem ht hfatal
      · rw [hkept]
        rfl
      · rw [correctHeader_v2 (x := examinedV2 h s) rfl rfl rfl,
          show modeSize (examinedV2 h s).ws = 24 from congrArg _ hw] at hwrite
        rw [hshort] at hk
        rw [hwrite]
        exact memGet_memWrite_of_agree hmem hread fun hle =>
          getD_encV2_corrected (fun hno => updatedV2_length_eq _ (keepsLength_of_count hno)) (hk hle)
  | _ => simp [hw, scanAccepts] at hscan

end Sys2Proof.Machine
end

section
/-! A scan as a whole: its mode, its end, and `WALK.RUN` as a sequence of steps (O45, O46, O48). -/

namespace Sys2Proof.Machine

/-! ### The mode of a scan (R233) -/

/-- The walker is in an end state (R30). -/
def InEndState (t : State) : Prop := t.ws = .stoppedClean ∨ t.ws = .stoppedError ∨ t.ws = .fatal

/-- Settles O48: no operation but a block is accepted in a scan; a block goes on in its mode or ends the scan. -/
theorem modeNeverChangesInAScan : Obligations.ModeNeverChangesInAScan := by
  intro i s t hscan he
  rcases exec_cases he with ⟨c, rfl⟩ | ⟨-, f, hrun, rfl⟩
  · exact .inl rfl
  · have hunit : unitAccepts s.ws = false := unitAccepts_of_scanAccepts hscan
    have hidle : s.ws ≠ .idle := fun hw => by simp [hw, scanAccepts] at hscan
    cases hrun with
    | build hu => exact absurd hu (by simp [hunit])
    | unit _ u hu => exact absurd hu (by simp [hunit])
    | rewriteFailed u stage hu => exact absurd hu (by simp [hunit])
    | probe hw => exact absurd hw hidle
    | run hw => exact absurd hw hidle
    | block _ B =>
      exact (examineAt_flow B (accept s)).log.state (R := fun t => t.ws = s.ws ∨ InEndState t)
        (fun _ ht => .inl ht.1) fun _ ht => .inr ht.1

/-! ### The end of a scan (R226, R231) -/

/-- A header has at least 20 bytes in either mode (R6). -/
theorem twenty_le_modeSize {ws : WalkState} (h : scanAccepts ws = true) : 20 ≤ modeSize ws := by
  revert h
  cases ws <;> decide

/-- A `WALK.STEP` ends the scan, or goes on with the cursor at least a header further and still inside the file. -/
theorem walkStepRule_advances {s : State} (hscan : scanAccepts s.ws = true) :
    (walkStepRule s).Leads
      (fun t => scanAccepts t.ws = true ∧ t.fileLen = s.fileLen ∧ s.cur + 20 ≤ t.cur ∧ t.cur ≤ t.fileLen)
      InEndState := by
  have hsize := twenty_le_modeSize hscan
  rw [walkStepRule_eq]
  have hf := examineAt_flow (streamBytes s.mem s.fileLen s.cur (modeSize s.ws)) s
  cases hx : examineAt (streamBytes s.mem s.fileLen s.cur (modeSize s.ws)) s with
  | ended t => rw [hx] at hf; exact hf.log.1
  | goes t =>
    rw [hx] at hf
    have ht : BlockExamined _ s t := hf.leads
    have hwhole := ht.whole
    have hcur := ht.cur
    have hinside := ht.inside
    rw [streamBytes_length] at hwhole hcur hinside
    have hlt : s.cur < s.fileLen := Nat.lt_of_not_le fun hend => by
      rw [streamCount_of_le hend] at hwhole
      omega
    exact ⟨by rw [ht.ws]; exact hscan, ht.fileLen, by omega,
      (hinside (streamCount_inside hlt.le _)).trans_eq ht.fileLen.symm⟩

/-- A scan with fewer bytes left than 20 for each step ends within those steps (R226). -/
theorem scanLoop_ends (n : Nat) :
    ∀ s, scanAccepts s.ws = true → s.fileLen - s.cur < 20 * n → (scanLoop n s).Leads (fun _ => False) InEndState := by
  induction n with
  | zero => exact fun s _ h => absurd h (Nat.not_lt_zero _)
  | succ n ih =>
    exact fun s hscan hleft => (walkStepRule_advances hscan).andThen fun t ⟨ht, hlen, hcur, hin⟩ =>
      ih t ht (by omega)

theorem walkRunRule_ends (s : State) : (walkRunRule s).Leads (fun _ => False) InEndState := by
  refine ((walkProbeRule_flow s).log.mono (fun t ht => ht.1) fun t ht => ht.1).andThen fun t hscan => ?_
  refine scanLoop_ends (scanBound t) t hscan ?_
  have hdiv := Nat.div_add_mod t.fileLen 20
  have hmod := Nat.mod_lt t.fileLen (show 0 < 20 by decide)
  rw [scanBound]
  omega

/-- An accepted `WALK.RUN` runs its rule and ends. -/
theorem exec_walkRun {s : State} (hb : s.busy = false) (hw : s.ws = .idle) (htv : s.tv = true) :
    exec .walkRun s = .next (release (walkRunRule (accept s)).state) :=
  exec_accepted (i := .walkRun) rfl hb (startAccepts_eq_true.2 hw) (needsTable_eq_none.2 htv)

/-- Settles O45: the probe stops or starts a scan, whose bound suffices. -/
theorem walkRunEndsTheScan : Obligations.WalkRunEndsTheScan := fun s hb hw htv =>
  ⟨_, exec_walkRun hb hw htv, rfl, (walkRunRule_ends (accept s)).state (fun _ => False.elim) fun _ ht => ht⟩

/-! ### `WALK.RUN` as steps issued one by one (R230) -/

/-- What acceptance writes and no rule of a scan does while it goes on: `BUSY`, `REFUSED` and the host's inputs. -/
structure KeepsPort (s t : State) : Prop where
  busy : t.busy = s.busy := by rfl
  refused : t.refused = s.refused := by rfl
  inputs : t.inputs = s.inputs := by rfl

theorem repairBlock_keepsPort {s x : State} (hx : KeepsPort s x) :
    (repairBlock x).Leads (KeepsPort s) fun _ => True := by
  rcases repairBlock_cases x with ⟨-, hgo⟩ | ⟨-, hwrite⟩
  · rw [hgo]
    exact hx
  · obtain ⟨dh, hb, res, dat, out, hcorr⟩ := correctHeader_eq x
    obtain ⟨ans, d, ⟨-, -, hgo⟩ | ⟨stage, hend⟩⟩ :=
      rewriteHeader_cases (correctHeader x).writeAccess (modeSize (correctHeader x).ws) (correctHeader x)
    · rw [hwrite, hgo, hcorr]
      exact { hx with }
    · rw [hwrite, hend]
      trivial

/-- A block that goes on keeps what acceptance wrote. -/
theorem examineAt_keepsPort (B : List Byte) (s : State) : (examineAt B s).Leads (KeepsPort s) fun _ => True := by
  have hload : ∀ n x, KeepsPort s x → (loadHeader n B x).Leads (KeepsPort s) fun _ => True := fun n x hx => by
    rcases loadHeader_cases n B x with ⟨-, h⟩ | ⟨-, -, h⟩ | ⟨-, -, h⟩ <;> rw [h]
    · trivial
    · trivial
    · exact { hx with }
  have hdecode : ∀ x, KeepsPort s x → (decodeAndCheck x).Leads (KeepsPort s) fun _ => True := fun x hx => by
    rcases decodeAndCheck_cases x with ⟨-, h⟩ | ⟨-, h⟩ <;> rw [h]
    · exact { hx with }
    · trivial
  have hexamine : ∀ x, KeepsPort s x → KeepsPort s (examineBlock x) := fun x hx => by
    obtain ⟨res, dat, out, bad, hc⟩ := checkHeaderChecksum_eq x
    have hs5 : KeepsPort s (checkHeaderChecksum x) := by rw [hc]; exact { hx with }
    exact { hs5 with }
  have hcontinue : ∀ x, KeepsPort s x → (continueOrStop x).Leads (KeepsPort s) fun _ => True := fun x hx => by
    rcases continueOrStop_cases x with ⟨-, h⟩ | ⟨-, h⟩ <;> rw [h]
    · trivial
    · exact hx
  exact (((hload _ { recordOffset s with cur := s.cur + B.length } {}).andThen hdecode).andThen fun x hx =>
    repairBlock_keepsPort (hexamine x hx)).andThen hcontinue

/-- An operation under way in a scan, its acceptance having met no further write. -/
structure Underway (s : State) : Prop where
  scan : scanAccepts s.ws = true
  busy : s.busy = true
  refused : s.refused = false
  inputs : takeOverlapping s.inputs = (false, s.inputs)

/-- The end of one operation and the acceptance of the next one undo each other. -/
theorem Underway.accept_release {s : State} (h : Underway s) : accept (release s) = s := by
  obtain ⟨-, hbusy, hrefused, hin⟩ := h
  have haccept : accept (release s) = { s with busy := true, refused := false } := by
    simp [accept, hin]
  rw [haccept, ← hbusy, ← hrefused]

theorem Underway.walkStepRule {s : State} (h : Underway s) :
    (walkStepRule s).Leads Underway fun t => scanAccepts t.ws = false := by
  rw [walkStepRule_eq]
  have hport := examineAt_keepsPort (streamBytes s.mem s.fileLen s.cur (modeSize s.ws)) s
  have hflow := (examineAt_flow (streamBytes s.mem s.fileLen s.cur (modeSize s.ws)) s).leads
  cases hx : examineAt (streamBytes s.mem s.fileLen s.cur (modeSize s.ws)) s with
  | ended t => rw [hx] at hflow; exact hflow.2
  | goes t =>
    rw [hx] at hport hflow
    have hp : KeepsPort s t := hport
    have hexamined : BlockExamined _ s t := hflow
    exact ⟨by rw [hexamined.ws]; exact h.scan, hp.busy.trans h.busy, hp.refused.trans h.refused,
      by rw [hp.inputs]; exact h.inputs⟩

/-- A stopped walker takes no further step. -/
theorem stepWhileScanning_of_stopped {s : State} (h : scanAccepts s.ws = false) (n : Nat) :
    stepWhileScanning n s = .next s := by
  cases n with
  | zero => rfl
  | succ n => rw [stepWhileScanning, if_neg (by simp [h])]

/-- `WALK.STEP`s issued one by one leave what the loop of `WALK.RUN` leaves. -/
theorem stepWhileScanning_eq_scanLoop (n : Nat) :
    ∀ s, Underway s → stepWhileScanning n (release s) = .next (release (scanLoop n s).state) := by
  induction n with
  | zero => exact fun s _ => rfl
  | succ n ih =>
    intro s h
    have hstep : exec .walkStep (release s) = .next (release (walkStepRule s).state) := by
      have hrun : exec .walkStep (release s) = .next (release (walkStepRule (accept (release s))).state) :=
        exec_accepted (i := .walkStep) rfl rfl h.scan rfl
      rwa [h.accept_release] at hrun
    have hnext := h.walkStepRule
    rw [stepWhileScanning, if_pos (show scanAccepts (release s).ws = true from h.scan), hstep, scanLoop]
    cases hx : walkStepRule s with
    | goes t =>
      rw [hx] at hnext
      exact ih t hnext
    | ended t =>
      rw [hx] at hnext
      exact stepWhileScanning_of_stopped (s := release t) hnext n

/-- Settles O46: the probe stops and no step follows, or it starts a scan, and each step is accepted as the loop left
the state. -/
theorem walkRunIsProbeThenSteps : Obligations.WalkRunIsProbeThenSteps := by
  intro s p hb hw htv hin hp
  rw [exec_walkProbe hb hw htv] at hp
  cases hp
  rw [exec_walkRun hb hw htv, walkRunRule]
  have hflow := walkProbeRule_flow (accept s)
  cases hx : walkProbeRule (accept s) with
  | ended t =>
    rw [hx] at hflow
    exact (stepWhileScanning_of_stopped (s := release t) hflow.leads.2 _).symm
  | goes t =>
    rw [hx] at hflow
    have hport : KeepsPort (accept s) t := by cases hflow; exact {}
    have hlen : t.fileLen = s.fileLen := hflow.leads.1.fileLen
    have hbound : scanBound t = scanBound s := by rw [scanBound, hlen, scanBound]
    have hinputs : t.inputs = s.inputs := hport.inputs.trans (congrArg Prod.snd hin)
    have hunder : Underway t :=
      ⟨hflow.leads.2.1, hport.busy, hport.refused.trans (congrArg Prod.fst hin), by rw [hinputs]; exact hin⟩
    rw [Flow.andThen_goes, hbound]
    exact (stepWhileScanning_eq_scanLoop _ t hunder).symm

end Sys2Proof.Machine
end

section
/-! `RPR.REWRITE` as a whole: the write that takes place and the two ways it fails (O41, O42). -/

namespace Sys2Proof.Machine

/-! ### `RPR.REWRITE` (R264) -/

/-- An `RPR.REWRITE` of a whole header is accepted and rewrites `HBN` bytes without consulting the grant (R264). -/
theorem exec_rprRewrite {s : State} (hb : s.busy = false)
    (hws : s.ws = .idle ∨ s.ws = .stoppedClean ∨ s.ws = .stoppedError) (hn : s.hbn = 20#5 ∨ s.hbn = 24#5) :
    exec .rprRewrite s = .next (release (rewriteHeader true s.hbn.toNat (accept s)).state) := by
  have hready : needsWholeHeader s = none := if_pos (by rcases hn with h | h <;> simp [h])
  exact exec_accepted (i := .rprRewrite) rfl hb (unitAccepts_eq_true.2 hws) hready

/-- Settles O41: the rewrite takes place, and a written byte is the buffer's. -/
theorem rewritePutsTheBufferIntoTheFile : Obligations.RewritePutsTheBufferIntoTheFile := by
  intro s rest hb hws hn hlen hmem hans hin
  have hsize : (s.hb.take s.hbn.toNat).length = s.hbn.toNat := by
    rw [List.length_take, hlen]
    rcases hn with h | h <;> rw [h] <;> rfl
  have hwrite := rewriteHeader_ok (n := s.hbn.toNat) (s := accept s) hin hans
  refine ⟨_, exec_rprRewrite hb hws hn, ?_, fun a => ?_⟩ <;> rw [hwrite]
  · rfl
  · show memGet (memWrite s.mem s.hoff (s.hb.take s.hbn.toNat)) a = _
    rw [memGet_memWrite hmem, hsize]
    split_ifs with ha
    · exact byteAt_take (by omega)
    · rfl

/-- A rewrite that would pass the end of the file fails at stage `Write`, whatever the port would answer (R265). -/
theorem rewriteHeader_pastEnd (access : Bool) {n : Nat} {s : State} (hout : s.fileLen < s.hoff + n) :
    rewriteHeader access n s =
      .ended (raiseFatal (emit (.repairFatal s.hoff .write) { s with saved := s.cur })) := by
  simp [rewriteHeader, rewriteAnswer, hout, failedStage]

/-- Settles O42: either way the rewrite ends in the fatal failure, behind the record of its stage. -/
theorem failedRewriteIsFatal : Obligations.FailedRewriteIsFatal := by
  intro s hb hws hn
  refine ⟨fun hout => ?_, fun o stage rest hin hans ho => ?_⟩
  · have hfails := rewriteHeader_pastEnd true (n := s.hbn.toNat) (s := accept s) hout
    rw [exec_rprRewrite hb hws hn, hfails]
    exact ⟨_, rfl, rfl, rfl, rfl, rfl, rfl⟩
  · have hstage : failedStage o = some stage := by rcases ho with ⟨rfl, rfl⟩ | ⟨rfl, rfl⟩ | ⟨rfl, rfl⟩ <;> rfl
    obtain ⟨u, hfails, hrpt, -⟩ :=
      rewriteHeader_fails (access := true) (s := accept s) hin (.inr ⟨rfl, o, rest, hans, hstage⟩)
    rw [exec_rprRewrite hb hws hn, hfails]
    exact ⟨_, rfl, congrArg (· ++ [Record.repairFatal s.hoff stage]) hrpt, rfl, rfl, rfl, rfl⟩

end Sys2Proof.Machine
end

section
/-! Writes that change nothing, and the correction of a header of either format, which is its own correction (O44). -/

namespace Sys2Proof.Machine

/-! ### The file where bytes are written over themselves -/

/-- Setting a byte to what it is changes nothing: the form of a file is canonical. -/
theorem memSet_self {m : List Host.Cell} {lo : Nat} (hm : memWfFrom lo m = true) (a : Nat) :
    memSet m a (memGet m a) = m := by
  induction m generalizing lo with
  | nil => rfl
  | cons c rest ih =>
    obtain ⟨k, v⟩ := c
    simp only [memWfFrom, Bool.and_eq_true, decide_eq_true_eq] at hm
    obtain ⟨⟨-, hv⟩, hrest⟩ := hm
    rcases Nat.lt_trichotomy a k with hlt | rfl | hgt
    · have hzero : memGet rest a = 0#8 := memGet_below hrest (by omega)
      simp [memSet, memGet, hlt, hlt.ne, hzero]
    · simp [memSet, memGet, hv]
    · simp [memSet, memGet, hgt.not_gt, hgt.ne', ih hrest]

/-- Writing the bytes a file holds changes nothing. -/
theorem memWrite_self {m : List Host.Cell} (hm : memWf m = true) {a : Nat} {B : List Byte}
    (hread : memRead m a B.length = B) : memWrite m a B = m := by
  induction B generalizing a with
  | nil => rfl
  | cons b rest ih =>
    rw [List.length_cons, Nat.add_comm, memRead_add] at hread
    obtain ⟨hb, hrest⟩ : memGet m a = b ∧ memRead m (a + 1) rest.length = rest := List.cons_eq_cons.1 hread
    rw [memWrite, ← hb, memSet_self hm, ih hrest]

/-- What was written is read back (R63, R65). -/
theorem memRead_memWrite {m : List Host.Cell} (hm : memWf m = true) (a : Nat) (B : List Byte) :
    memRead (memWrite m a B) a B.length = B := by
  refine List.ext_getElem (memRead_length ..) fun k _ hk => ?_
  simp [memRead, memGet_memWrite hm, hk]

/-- Behind what was written the file reads as before. -/
theorem memRead_memWrite_behind {m : List Host.Cell} (hm : memWf m = true) (a : Nat) (B : List Byte) (n : Nat) :
    memRead (memWrite m a B) (a + B.length) n = memRead m (a + B.length) n := by
  refine List.map_congr_left fun k _ => ?_
  rw [memGet_memWrite hm, if_neg (by omega)]

/-! ### The corrected header of either format (R261) -/

/-- A header of the mode's format with its signature (R217, R218). -/
inductive OfMode (ws : WalkState) : DecodedHeader → Prop where
  | v1 {h : HeaderV1} : ws = .scanningV1 → h.signature = sigV1 → OfMode ws (.v1 h)
  | v2 {h : HeaderV2} : ws = .scanningV2 → h.signature = sigV2 → OfMode ws (.v2 h)

/-- Whether the stored header checksum, which only V2 has, is wrong (R219). -/
def checksumMismatch (seed : Byte) : DecodedHeader → Bool
  | .none => false
  | .v1 _ => false
  | .v2 h => decide (hcs seed ((encV2 h).drop 5) ≠ h.headerChecksum)

/-- The correction of a header of either format, for an observed count and CRC (R261). -/
def corrected (p : Params) (cnt crc : Word) : DecodedHeader → DecodedHeader
  | .none => .none
  | .v1 h => .v1 (correctedV1 p.repairLenPolicy h cnt crc)
  | .v2 h => .v2 (correctedV2 p.repairLenPolicy p.hcsSeed h cnt crc)

theorem OfMode.corrected {ws : WalkState} {d : DecodedHeader} (h : OfMode ws d) (p : Params) (cnt crc : Word) :
    OfMode ws (corrected p cnt crc d) := by
  cases h with
  | v1 hw hsig => exact .v1 hw hsig
  | v2 hw hsig => exact .v2 hw hsig

theorem corrected_bytes_length (p : Params) (cnt crc : Word) (d : DecodedHeader) :
    (corrected p cnt crc d).bytes.length = d.bytes.length := by
  cases d <;> rfl

theorem OfMode.corrected_crc {ws : WalkState} {d : DecodedHeader} (h : OfMode ws d) (p : Params) (cnt crc : Word) :
    (Machine.corrected p cnt crc d).declaredDataCrc32 = crc := by
  cases h <;> rfl

/-- The length stays under `KeepDeclared`. -/
theorem corrected_length_keepDeclared {p : Params} (hp : p.repairLenPolicy = .keepDeclared) (cnt crc : Word)
    (d : DecodedHeader) : (corrected p cnt crc d).declaredDataLength = d.declaredDataLength := by
  cases d with
  | none => rfl
  | v1 h => exact correctedV1_length_eq crc (.inl hp)
  | v2 h => exact updatedV2_length_eq crc (.inl hp)

/-- The length is the count observed under `WriteObserved`. -/
theorem OfMode.corrected_length_writeObserved {ws : WalkState} {d : DecodedHeader} (h : OfMode ws d) {p : Params}
    (hp : p.repairLenPolicy = .writeObserved) (cnt crc : Word) :
    (Machine.corrected p cnt crc d).declaredDataLength = cnt := by
  cases h <;> simp [Machine.corrected, correctedV1, correctedV2, DecodedHeader.declaredDataLength, hp]

/-- The checksum of a corrected header is right: it does not cover its own byte (R164, R261). -/
theorem checksumMismatch_corrected (p : Params) (cnt crc : Word) (d : DecodedHeader) :
    checksumMismatch p.hcsSeed (corrected p cnt crc d) = false := by
  cases d with
  | none => rfl
  | v1 h => rfl
  | v2 h => exact decide_eq_false (not_not.2 rfl)

/-- A header without a mismatch is its own correction. -/
theorem corrected_self {p : Params} {cnt crc : Word} {d : DecodedHeader} (hcrc : crc = d.declaredDataCrc32)
    (hlen : p.repairLenPolicy = .keepDeclared ∨ cnt = d.declaredDataLength)
    (hsum : checksumMismatch p.hcsSeed d = false) : corrected p cnt crc d = d := by
  cases d with
  | none => rfl
  | v1 h =>
    have hkeep := correctedV1_length_eq crc hlen
    rw [hcrc] at hkeep ⊢
    exact congrArg (fun n => DecodedHeader.v1 { h with declaredDataLength := n }) hkeep
  | v2 h =>
    have hkeep := updatedV2_length_eq crc hlen
    rw [hcrc] at hkeep ⊢
    have hupdated : updatedV2 p.repairLenPolicy h cnt (DecodedHeader.v2 h).declaredDataCrc32 = h :=
      congrArg (fun n => { h with declaredDataLength := n }) hkeep
    have hstored : hcs p.hcsSeed ((encV2 h).drop 5) = h.headerChecksum := by simpa [checksumMismatch] using hsum
    rw [corrected, correctedV2_eq, hupdated, hstored]

end Sys2Proof.Machine
end

section
/-! What a `WALK.STEP` with repair on leaves of a block of either format, by the header that stands at the cursor
(O44). -/

namespace Sys2Proof.Machine

/-! ### A block as its header and its payload -/

/-- The header `d`, of the mode's format and with its signature, stands whole in the file at the cursor. -/
structure HeaderStands (s : State) (d : DecodedHeader) : Prop where
  mode : OfMode s.ws d
  inside : s.cur + d.bytes.length ≤ s.fileLen
  read : memRead s.mem s.cur d.bytes.length = d.bytes

/-- The payload bytes present behind the header `d` at the cursor (R97, R220). -/
def blockPayload (s : State) (d : DecodedHeader) : List Byte := payloadAt s d.bytes.length d.declaredDataLength

/-- `CNT` after the payload (R220). -/
def observedCount (s : State) (d : DecodedHeader) : Word := BitVec.ofNat 32 (blockPayload s d).length

/-- `CRCOUT` after the payload (R220). -/
def observedCrc (s : State) (d : DecodedHeader) : Word := ~~~crcFold s.table (blockPayload s d)

/-- What a repair of the block writes over its header (R261). -/
def correction (s : State) (d : DecodedHeader) : DecodedHeader :=
  corrected s.params (observedCount s d) (observedCrc s d) d

theorem correction_bytes_length (s : State) (d : DecodedHeader) :
    (correction s d).bytes.length = d.bytes.length := corrected_bytes_length ..

/-- The count is the payload's length: no more bytes are read than a 32-bit length declares. -/
theorem observedCount_toNat (s : State) (d : DecodedHeader) :
    (observedCount s d).toNat = (blockPayload s d).length := by
  have hle : (blockPayload s d).length ≤ d.declaredDataLength.toNat := by
    rw [blockPayload, payloadAt, streamBytes_length]
    exact streamCount_le ..
  rw [observedCount, BitVec.toNat_ofNat, Nat.mod_eq_of_lt (hle.trans_lt d.declaredDataLength.isLt)]

/-- Asking for the bytes a stream read has returned gets as many. -/
theorem streamCount_streamCount (len cur n : Nat) :
    streamCount len cur (streamCount len cur n) = streamCount len cur n := by
  unfold streamCount
  split_ifs <;> omega

/-! ### What the examination of a block finds (R215 to R223) -/

/-- What S5 to S8 find of the block with header `d`, and S9 keeps. -/
structure Findings (s : State) (d : DecodedHeader) (x : State) : Prop where
  ws : x.ws = s.ws
  cur : x.cur = s.cur + d.bytes.length + (blockPayload s d).length
  short : x.short = decide (observedCount s d < d.declaredDataLength)
  crcbad : x.crcbad = decide (observedCrc s d ≠ d.declaredDataCrc32)
  hcsbad : x.hcsbad = checksumMismatch s.params.hcsSeed d

/-- The block with header `d` is examined, and not yet repaired. -/
structure Examined (s : State) (d : DecodedHeader) (x : State) : Prop extends Findings s d x where
  hoff : x.hoff = s.cur
  mem : x.mem = s.mem
  answers : x.answers = s.answers
  re : x.re = s.re
  repaired : (correctHeader x).hb.take (modeSize x.ws) = (correction s d).bytes

/-- A `WALK.STEP` examines the block whose header stands at the cursor, repairs it and goes on or stops (R214). -/
theorem HeaderStands.exec_walkStep {s : State} {d : DecodedHeader} (h : HeaderStands s d) (hb : s.busy = false) :
    ∃ x, Examined s d x ∧
      exec .walkStep s = .next (release ((repairBlock x).andThen continueOrStop).state) := by
  obtain ⟨hmode, hin, hread⟩ := h
  have hstream := (streamBytes_inside s.mem hin).trans hread
  cases hmode with
  | @v1 h hw hsig =>
    refine ⟨examinedV1 h s, ⟨⟨rfl, rfl, rfl, rfl, rfl⟩, rfl, rfl, rfl, rfl, ?_⟩, ?_⟩
    · rw [correctHeader_v1 (x := examinedV1 h s) rfl rfl,
        show modeSize (examinedV1 h s).ws = 20 from congrArg modeSize hw]
      rfl
    · rw [exec_walkStep_eq_blockV1 hstream, exec_blockV1 hb hw hsig]
  | @v2 h hw hsig =>
    refine ⟨examinedV2 h s, ⟨⟨rfl, rfl, rfl, rfl, rfl⟩, rfl, rfl, rfl, rfl, ?_⟩, ?_⟩
    · rw [correctHeader_v2 (x := examinedV2 h s) rfl rfl rfl,
        show modeSize (examinedV2 h s).ws = 24 from congrArg modeSize hw]
      rfl
    · rw [exec_walkStep_eq_blockV2 hstream, exec_blockV2 hb hw hsig]

/-- The walker got behind S9: the scan goes on, or the block was short (R224). -/
def BlockDone (s t : State) : Prop := t.ws = s.ws ∨ (t.ws = .stoppedError ∧ t.cause = .payloadShortfall)

/-- A step that got behind S9 had a whole header in the file (R216). -/
theorem BlockDone.whole {s t : State} {n : Nat} (hdone : BlockDone s t) (hb : s.busy = false)
    (hmode : s.ws = .scanningV1 ∧ n = 20 ∨ s.ws = .scanningV2 ∧ n = 24) (he : exec .walkStep s = .next t) :
    s.cur + n ≤ s.fileLen := by
  have hws : s.ws ≠ .stoppedClean ∧ s.ws ≠ .stoppedError := by
    rcases hmode with ⟨hw, -⟩ | ⟨hw, -⟩ <;> rw [hw] <;> decide
  obtain ⟨hclean, hpart⟩ := walkStepStopsWithoutAWholeHeader s n hb hmode
  by_contra hout
  by_cases hend : s.fileLen ≤ s.cur
  · rw [hclean hend] at he
    cases he
    exact hdone.elim (fun h => hws.1 h.symm) fun h => nomatch h.1
  · rw [hpart (Nat.lt_of_not_le hend) (by omega)] at he
    cases he
    exact hdone.elim (fun h => hws.2 h.symm) fun h => nomatch h.2

/-- A step that got behind S9 examined a block whose header stands in the file (R218). -/
theorem BlockDone.headerStands {s t : State} (hdone : BlockDone s t) (hb : s.busy = false)
    (hscan : scanAccepts s.ws = true) (he : exec .walkStep s = .next t) : ∃ d, HeaderStands s d := by
  rcases scanAccepts_cases hscan with ⟨hw, -⟩ | ⟨hw, -⟩
  · have hin := hdone.whole hb (.inl ⟨hw, rfl⟩) he
    obtain ⟨h, hread⟩ := exists_encV1_eq (memRead_length s.mem s.cur 20)
    by_cases hsig : h.signature = sigV1
    · exact ⟨.v1 h, .v1 hw hsig, hin, hread⟩
    · rw [exec_walkStep_eq_blockV1 ((streamBytes_inside s.mem hin).trans hread),
        badSignatureStopsTheScan.1 s h hb hw hsig] at he
      cases he
      exact hdone.elim (fun h => by simp [hw] at h) fun h => nomatch h.2
  · have hin := hdone.whole hb (.inr ⟨hw, rfl⟩) he
    obtain ⟨h, hread⟩ := exists_encV2_eq (memRead_length s.mem s.cur 24)
    by_cases hsig : h.signature = sigV2
    · exact ⟨.v2 h, .v2 hw hsig, hin, hread⟩
    · rw [exec_walkStep_eq_blockV2 ((streamBytes_inside s.mem hin).trans hread),
        badSignatureStopsTheScan.2 s h hb hw hsig] at he
      cases he
      exact hdone.elim (fun h => by simp [hw] at h) fun h => nomatch h.2

/-! ### The block after its repair (R223, R263, R224) -/

/-- A block without a mismatch is its own correction. -/
theorem correction_self {s x : State} {d : DecodedHeader} (hx : Findings s d x) (hnone : anyMismatch x = false) :
    correction s d = d := by
  simp only [anyMismatch, Bool.or_eq_false_iff, hx.short, hx.crcbad, hx.hcsbad] at hnone
  obtain ⟨⟨hshort, hcrc⟩, hsum⟩ := hnone
  exact corrected_self (by simpa using hcrc) (.inr (payloadAt_count_eq (of_decide_eq_false hshort))) hsum

/-- S9 keeps the block's mismatches (R223). -/
theorem Examined.anyMismatch_eq {s x y : State} {d : DecodedHeader} (hx : Examined s d x) (hy : Findings s d y) :
    anyMismatch x = anyMismatch y := by
  rw [anyMismatch, anyMismatch, hx.short, hx.crcbad, hx.hcsbad, hy.short, hy.crcbad, hy.hcsbad]

/-- What S9 with repair on can do to an examined block: the corrected header stands in the file, unchanged where there
was no mismatch, or the rewrite of a mismatch failed. -/
theorem Examined.repairBlock {s x : State} {d : DecodedHeader} (hx : Examined s d x) (hd : HeaderStands s d)
    (hre : s.re = true) (hmem : memWf s.mem = true) :
    (∃ y, Machine.repairBlock x = .goes y ∧ Findings s d y ∧
        y.mem = memWrite s.mem s.cur (correction s d).bytes ∧ (anyMismatch x = false → y.answers = s.answers)) ∨
      (anyMismatch x = true ∧ ∃ r y, Machine.repairBlock x = .ended (raiseFatal (emit r y)) ∧ Findings s d y) := by
  rcases repairBlock_cases x with ⟨hno, hgo⟩ | ⟨hyes, hwrite⟩
  · have hnone : anyMismatch x = false := by simpa [hx.re, hre] using hno
    refine .inl ⟨x, hgo, hx.toFindings, ?_, fun _ => hx.answers⟩
    rw [correction_self hx.toFindings hnone, memWrite_self hmem hd.read, hx.mem]
  · have hbad : anyMismatch x = true := (Bool.and_eq_true_iff.1 hyes).2
    have hbytes := hx.repaired
    obtain ⟨dh, hb, res, dat, out, hcorr⟩ := correctHeader_eq x
    rw [hcorr] at hbytes hwrite
    obtain ⟨ans, dr, ⟨-, -, hgo⟩ | ⟨stage, hend⟩⟩ := rewriteHeader_cases x.writeAccess (modeSize x.ws)
      { x with dh := dh, hb := hb, res := res, dat := dat, hcsout := out }
    · refine .inl ⟨_, hwrite.trans hgo, { hx with }, ?_, fun hnone => absurd hbad (by simp [hnone])⟩
      show memWrite x.mem x.hoff (hb.take (modeSize x.ws)) = _
      rw [hbytes, hx.mem, hx.hoff]
    · exact .inr ⟨hbad, _, _, hwrite.trans hend, { hx with }⟩

/-- What a `WALK.STEP` that is not fatal leaves of the block with header `d`. -/
structure BlockRepaired (s : State) (d : DecodedHeader) (t : State) : Prop where
  file : t.mem = memWrite s.mem s.cur (correction s d).bytes
  cur : t.cur = s.cur + d.bytes.length + (blockPayload s d).length
  goesOn : t.short = false → t.ws = s.ws
  stops : t.short = true → t.ws = .stoppedError ∧ t.cause = .payloadShortfall

/-- What a `WALK.STEP` with repair on leaves of the block with header `d`. -/
structure BlockLeft (s : State) (d : DecodedHeader) (t : State) : Prop where
  short : t.short = decide (observedCount s d < d.declaredDataLength)
  crcbad : t.crcbad = decide (observedCrc s d ≠ d.declaredDataCrc32)
  hcsbad : t.hcsbad = checksumMismatch s.params.hcsSeed d
  repaired : t.ws ≠ .fatal → BlockRepaired s d t
  quiet : anyMismatch t = false → t.ws ≠ .fatal ∧ t.answers = s.answers

/-- S10 and the end of the operation, by `SHORT` (R224). -/
theorem settled_cases (y : State) :
    (y.short = true ∧ settled y = { y with
        ws := .stoppedError, cause := .payloadShortfall, exitCode := true, busy := false }) ∨
      (y.short = false ∧ settled y = { y with busy := false }) := by
  by_cases h : y.short = true
  · exact .inl ⟨h, if_pos h⟩
  · exact .inr ⟨Bool.eq_false_iff.2 h, if_neg h⟩

theorem not_short_of_noMismatch {x : State} (h : anyMismatch x = false) : ¬ x.short = true := by
  intro hshort
  simp [anyMismatch, hshort] at h

/-- A `WALK.STEP` with repair on, at the block whose header stands at the cursor. -/
theorem HeaderStands.blockLeft {s t : State} {d : DecodedHeader} (hd : HeaderStands s d) (hb : s.busy = false)
    (hre : s.re = true) (hmem : memWf s.mem = true) (he : exec .walkStep s = .next t) : BlockLeft s d t := by
  obtain ⟨x, hx, hrun⟩ := hd.exec_walkStep hb
  have hlive : s.ws ≠ .fatal := by cases hd.mode <;> simp [*]
  rw [hrun] at he
  rcases hx.repairBlock hd hre hmem with ⟨y, hgo, hy, hfile, hans⟩ | ⟨hbad, r, y, hend, hy⟩
  · rw [hgo, Flow.andThen_goes, release_continueOrStop] at he
    rcases settled_cases y with ⟨hshort, hsettled⟩ | ⟨hshort, hsettled⟩ <;> rw [hsettled] at he <;> cases he
    · exact ⟨hy.short, hy.crcbad, hy.hcsbad,
        fun _ => ⟨hfile, hy.cur, fun h => absurd hshort (Bool.eq_false_iff.1 h), fun _ => ⟨rfl, rfl⟩⟩,
        fun hnone => absurd hshort (not_short_of_noMismatch hnone)⟩
    · exact ⟨hy.short, hy.crcbad, hy.hcsbad,
        fun _ => ⟨hfile, hy.cur, fun _ => hy.ws, fun h => absurd h (Bool.eq_false_iff.1 hshort)⟩,
        fun hnone => ⟨fun h => hlive (hy.ws.symm.trans h), hans ((hx.anyMismatch_eq hy).trans hnone)⟩⟩
  · rw [hend, Flow.andThen_ended] at he
    cases he
    exact ⟨hy.short, hy.crcbad, hy.hcsbad, fun h => absurd rfl h,
      fun hnone => absurd hbad (Bool.eq_false_iff.1 ((hx.anyMismatch_eq hy).trans hnone))⟩

end Sys2Proof.Machine
end

section
/-! A block after its repair, examined again (O44). -/

namespace Sys2Proof.Machine

/-! ### The block examined again (R268) -/

/-- The state in which the block at the cursor of `s`, left as `t`, is examined again. -/
def backAt (s t : State) : State := { t with cur := s.cur, ws := s.ws }

theorem exec_walkStep_keepsSetup {s t : State} (he : exec .walkStep s = .next t) : KeepsSetup s t := by
  obtain ⟨htable, hre, hen, hlen, haccess, hparams⟩ := onlyTheNamedOperationsWrite .walkStep s t he
  exact ⟨(htable nofun).1, (htable nofun).2, hre nofun nofun, hen, hlen, haccess, hparams⟩

/-- The corrected length asks for the payload bytes that are there, as the length found did (R261). -/
theorem streamCount_correction {s : State} {d : DecodedHeader} (hmode : OfMode s.ws d) :
    streamCount s.fileLen (s.cur + d.bytes.length) (correction s d).declaredDataLength.toNat =
      streamCount s.fileLen (s.cur + d.bytes.length) d.declaredDataLength.toNat := by
  cases hp : s.params.repairLenPolicy with
  | keepDeclared => rw [correction, corrected_length_keepDeclared hp]
  | writeObserved =>
    rw [correction, hmode.corrected_length_writeObserved hp, observedCount_toNat, blockPayload, payloadAt,
      streamBytes_length, streamCount_streamCount]

section
variable {s t : State} {d : DecodedHeader} (hd : HeaderStands s d) (hmem : memWf s.mem = true)
  (hk : KeepsSetup s t) (ht : BlockRepaired s d t)
include hd hmem hk ht

/-- The corrected header stands where the header found stood. -/
theorem HeaderStands.backAt : HeaderStands (Machine.backAt s t) (correction s d) := by
  refine ⟨hd.mode.corrected .., ?_, ?_⟩
  · rw [correction_bytes_length]
    exact hd.inside.trans_eq hk.fileLen.symm
  · show memRead t.mem s.cur _ = _
    rw [ht.file]
    exact memRead_memWrite hmem ..

/-- Behind the corrected header the payload is the one found. -/
theorem blockPayload_backAt : blockPayload (backAt s t) (correction s d) = blockPayload s d := by
  show streamBytes t.mem t.fileLen (s.cur + (correction s d).bytes.length) (correction s d).declaredDataLength.toNat = _
  have hbehind := memRead_memWrite_behind hmem s.cur (correction s d).bytes
  rw [correction_bytes_length] at hbehind ⊢
  rw [streamBytes, hk.fileLen, streamCount_correction hd.mode, ht.file, hbehind]
  rfl

theorem observedCount_backAt : observedCount (backAt s t) (correction s d) = observedCount s d := by
  rw [observedCount, blockPayload_backAt hd hmem hk ht, observedCount]

theorem observedCrc_backAt : observedCrc (backAt s t) (correction s d) = observedCrc s d := by
  rw [observedCrc, blockPayload_backAt hd hmem hk ht, observedCrc]
  exact congrArg (fun T => ~~~crcFold T (blockPayload s d)) hk.table

/-- A corrected header is its own correction. -/
theorem correction_backAt : correction (backAt s t) (correction s d) = correction s d := by
  have hparams : (backAt s t).params = s.params := hk.params
  rw [correction, hparams, observedCount_backAt hd hmem hk ht, observedCrc_backAt hd hmem hk ht]
  refine corrected_self (hd.mode.corrected_crc ..).symm ?_ (checksumMismatch_corrected ..)
  cases hp : s.params.repairLenPolicy with
  | keepDeclared => exact .inl rfl
  | writeObserved => exact .inr (hd.mode.corrected_length_writeObserved hp ..).symm

end

/-- What a second look at a repaired block finds: no mismatch but, under `KeepDeclared`, the shortfall; the file is as
the first look left it. -/
structure SecondLook (s t v : State) : Prop where
  crcbad : v.crcbad = false
  hcsbad : v.hcsbad = false
  short_keepDeclared : s.params.repairLenPolicy = .keepDeclared → v.short = t.short
  short_writeObserved : s.params.repairLenPolicy = .writeObserved → v.short = false
  kept : v.ws ≠ .fatal → v.mem = t.mem ∧ v.cur = t.cur
  stops : v.short = true → v.ws ≠ .fatal → v.ws = .stoppedError ∧ v.cause = .payloadShortfall
  goesOn : v.short = false → v.ws = s.ws ∧ v.mem = t.mem ∧ v.answers = t.answers ∧ v.cur = t.cur

/-- A block left without a fatal failure, examined again. -/
theorem BlockLeft.secondLook {s t v : State} {d : DecodedHeader} (hleft : BlockLeft s d t) (hd : HeaderStands s d)
    (hs : s.wf = true) (hre : s.re = true) (he : exec .walkStep s = .next t) (hfatal : t.ws ≠ .fatal)
    (he' : exec .walkStep (backAt s t) = .next v) : SecondLook s t v := by
  have hmem : memWf s.mem = true := (State.wf_iff.1 hs).1.canonical
  obtain ⟨hshaped, hbusy⟩ := State.wf_iff.1 (exec_wf he hs (.inl ⟨0x9#4, rfl⟩))
  have hk := exec_walkStep_keepsSetup he
  have ht := hleft.repaired hfatal
  have hd' := hd.backAt hmem hk ht
  have hagain := hd'.blockLeft hbusy (hk.re.trans hre) hshaped.canonical he'
  have hcount := observedCount_backAt hd hmem hk ht
  have hcrc : v.crcbad = false := by
    rw [hagain.crcbad, observedCrc_backAt hd hmem hk ht, correction, hd.mode.corrected_crc]
    simp
  have hsum : v.hcsbad = false := by
    rw [hagain.hcsbad, show (backAt s t).params = s.params from hk.params]
    exact checksumMismatch_corrected ..
  have hkept : v.ws ≠ .fatal → v.mem = t.mem ∧ v.cur = t.cur := fun hv => by
    refine ⟨?_, ?_⟩
    · rw [(hagain.repaired hv).file, correction_backAt hd hmem hk ht]
      exact memWrite_self hshaped.canonical hd'.read
    · rw [(hagain.repaired hv).cur, correction_bytes_length, blockPayload_backAt hd hmem hk ht, ht.cur]
      rfl
  refine ⟨hcrc, hsum, fun hp => ?_, fun hp => ?_, hkept, fun hshort hv => (hagain.repaired hv).stops hshort,
    fun hshort => ?_⟩
  · rw [hagain.short, hleft.short, hcount, correction, corrected_length_keepDeclared hp]
  · rw [hagain.short, hcount, correction, hd.mode.corrected_length_writeObserved hp]
    simp
  · obtain ⟨hv, hans⟩ := hagain.quiet (by rw [anyMismatch, hshort, hcrc, hsum]; rfl)
    exact ⟨(hagain.repaired hv).goesOn hshort, (hkept hv).1, hans, (hkept hv).2⟩

/-- A block the walker got past, examined again; the first look was short exactly where it stopped the scan. -/
theorem BlockDone.secondLook {s t v : State} (hdone : BlockDone s t) (hs : s.wf = true)
    (hscan : scanAccepts s.ws = true) (hre : s.re = true) (he : exec .walkStep s = .next t)
    (he' : exec .walkStep (backAt s t) = .next v) :
    SecondLook s t v ∧ (t.ws = s.ws → t.short = false) ∧ (t.ws = .stoppedError → t.short = true) := by
  obtain ⟨hshaped, hbusy⟩ := State.wf_iff.1 hs
  have hws : s.ws ≠ .fatal ∧ s.ws ≠ .stoppedError := by
    rcases scanAccepts_cases hscan with ⟨hw, -⟩ | ⟨hw, -⟩ <;> rw [hw] <;> decide
  have hfatal : t.ws ≠ .fatal := by
    rcases hdone with h | ⟨h, -⟩ <;> rw [h]
    · exact hws.1
    · decide
  obtain ⟨d, hd⟩ := hdone.headerStands hbusy hscan he
  have hleft := hd.blockLeft hbusy hre hshaped.canonical he
  have hrep := hleft.repaired hfatal
  refine ⟨hleft.secondLook hd hs hre he hfatal he', fun hsame => ?_, fun hstop => ?_⟩
  · exact Bool.eq_false_iff.2 fun hshort => hws.2 (hsame.symm.trans (hrep.stops hshort).1)
  · exact Bool.eq_true_of_not_eq_false fun hshort => hws.2 ((hrep.goesOn hshort).symm.trans hstop)

/-- Settles O44: the corrected header is its own correction, and its payload the one found. -/
theorem repairedBlockNeedsNoRepair : Obligations.RepairedBlockNeedsNoRepair := by
  rintro s t _ v hs hscan hre he rfl he'
  refine ⟨fun hsame => ?_, fun hstop hcause => ?_⟩
  · obtain ⟨hlook, hwent, -⟩ := BlockDone.secondLook (.inl hsame) hs hscan hre he he'
    have hshort : v.short = false := by
      cases hp : s.params.repairLenPolicy with
      | keepDeclared => rw [hlook.short_keepDeclared hp, hwent hsame]
      | writeObserved => exact hlook.short_writeObserved hp
    obtain ⟨hvws, hrest⟩ := hlook.goesOn hshort
    exact ⟨hvws.trans hsame.symm, hlook.crcbad, hlook.hcsbad, hshort, hrest⟩
  · obtain ⟨hlook, -, hwas⟩ := BlockDone.secondLook (.inr ⟨hstop, hcause⟩) hs hscan hre he he'
    refine ⟨hlook.crcbad, hlook.hcsbad, fun hp => ?_, fun hp => ?_⟩
    · exact ⟨hlook.short_writeObserved hp, hlook.goesOn (hlook.short_writeObserved hp)⟩
    · have hshort := (hlook.short_keepDeclared hp).trans (hwas hstop)
      refine ⟨hshort, fun hv => ?_⟩
      obtain ⟨hvws, hvcause⟩ := hlook.stops hshort hv
      exact ⟨hvws, hvcause, hlook.kept hv⟩

end Sys2Proof.Machine
end

section
/-! The fields a refusal and an acceptance write (O5). -/

namespace Sys2Proof.Machine

/-- R285, with the two end states whose `CAUSE` stands written out. -/
theorem refuse_eq (c : Cause) (s : State) : refuse c s =
    { s with refused := true, cause := if s.ws = .stoppedError ∨ s.ws = .fatal then s.cause else c } := by
  simp only [refuse, causeIsKept_eq_true]

/-- With nothing behind the command, acceptance leaves the queue and `CAUSE` alone (R42). -/
theorem accept_of_no_overlap {s : State} (h : ∀ reg v rest, s.inputs ≠ .write reg v false :: rest) :
    accept s = { s with refused := false, busy := true } := by
  have hqueue : takeOverlapping s.inputs = (false, s.inputs) := takeOverlapping_of_none h
  simp [accept, hqueue]

/-- Settles O5: a refusal keeps `CAUSE` in the two error end states; an acceptance takes no input from the queue. -/
theorem refusalAndAcceptanceChangeTheirFields : Obligations.RefusalAndAcceptanceChangeTheirFields :=
  ⟨refuse_eq, fun _ => accept_of_no_overlap⟩

end Sys2Proof.Machine
end

section
/-! Reset (O1, O53), the refusals in `Fatal` and without a table (O3, O8). -/

namespace Sys2Proof.Machine

/-! ### `Fatal` (R329) -/

/-- In `Fatal` a refusal keeps `CAUSE` (R42), whatever its code. -/
theorem refuse_of_fatal {s : State} (hw : s.ws = .fatal) (c : Cause) : refuse c s = { s with refused := true } := by
  rw [refuse_eq, if_pos (.inr hw)]

/-- No row of R107 names `Fatal`. -/
theorem admits_fatal (i : Instr) : admits i .fatal = false := by cases i <;> rfl

/-- Settles O3: a reserved code is refused in every state, any other command because its row of R107 leaves `Fatal`
out. -/
theorem fatalRefusesEveryCommand : Obligations.FatalRefusesEveryCommand := by
  intro i s hb hw
  cases hres : isReserved i with
  | true => rw [exec_reserved hres hb, refuse_of_fatal hw]
  | false =>
    rw [commandsOutsideTheirStatesAreRefused i s hb hres (hw ▸ admits_fatal i), refuse_of_fatal hw]

/-! ### No table (R325) -/

/-- Settles O8: `TV` is the one thing each of the three tests behind its row of R107. -/
theorem noTableRefusesTheOperationsThatNeedIt : Obligations.NoTableRefusesTheOperationsThatNeedIt := by
  intro s hb htv
  have hu : needsTable s = some .refNoTable := needsTable_eq_refNoTable htv
  refine ⟨fun hws => ?_, fun hws => ⟨?_, ?_⟩⟩
  · exact exec_unready (i := .crcCompute) rfl hb (unitAccepts_eq_true.2 hws) hu
  · exact exec_unready (i := .walkProbe) rfl hb (startAccepts_eq_true.2 hws) hu
  · exact exec_unready (i := .walkRun) rfl hb (startAccepts_eq_true.2 hws) hu

/-! ### Reset (R321) -/

/-- The reset state is what the reset step makes of it: its parameters say that the table is not hardwired. -/
theorem resetCore_reset : resetCore State.reset = State.reset := rfl

/-- After reset a hardwired table holds the constants of R132 (R29). -/
theorem resetCore_table_of_hardwired {s : State} (h : s.params.tableHardwired = true) :
    (resetCore s).table = builtTable := by
  rw [resetCore_table, if_pos h]

theorem bitAt_false (pos : Nat) : bitAt pos false = 0#32 := BitVec.zero_shiftLeft pos

/-- After reset `STATUS` shows `TV` alone, which is 1 where the table is hardwired (R29, R321). -/
theorem resetCore_status (s : State) :
    (resetCore s).status = if (resetCore s).params.tableHardwired then 0x00000002#32 else 0x00000000#32 := by
  have hfields : (resetCore s).status = bitAt 1 s.params.tableHardwired := by
    simp [State.status, bitAt_false, WalkState.code, Cause.code]
  rw [hfields, resetCore_params]
  cases s.params.tableHardwired <;> rfl

/-- Settles O1: the reset state is itself the outcome of a reset step. -/
theorem resetLeavesTheStatedValues : Obligations.ResetLeavesTheStatedValues := by
  refine ⟨fun t ht => ?_, fun s => ⟨resetCore_mem s, resetCore_fileLen s⟩⟩
  have hreset : ∃ s, t = resetCore s := ht.elim (fun h => ⟨State.reset, h.trans resetCore_reset.symm⟩) id
  obtain ⟨s, rfl⟩ := hreset
  simpa [resetCore_status] using resetCore_table_of_hardwired (s := s)

/-! ### The invariants at reset -/

/-- Every register of the reset state has its width, and there is no file (R61, R321). -/
theorem reset_shaped : State.reset.Shaped where
  canonical := reset_memWf
  inFile := rfl
  hb := State.reset_hb_length
  hbn := Nat.zero_le _
  table := State.reset_table_length
  params := rfl
  fileLen := Nat.two_pow_pos _
  cur := Nat.two_pow_pos _
  hoff := Nat.two_pow_pos _
  saved := Nat.two_pow_pos _

/-- Before a scan, and while `TV` is 0, `tableOk` asks for nothing. -/
theorem tableOk_of_idle {s : State} (hws : s.ws = .idle) (htv : s.tv = false) : s.tableOk :=
  ⟨fun hv => absurd hv (Bool.eq_false_iff.1 htv), fun hs => absurd hs (by simp [hws, scanAccepts])⟩

/-- `endOk` speaks of the end states alone. -/
theorem endOk_of_idle {s : State} (hws : s.ws = .idle) : s.endOk := by
  refine ⟨fun h => ?_, fun h => ?_, fun h => ?_⟩ <;> exact nomatch hws.symm.trans h

/-- Settles O53: the reset state is `Idle`, with `TV` 0 and an empty log. -/
theorem resetMeetsTheInvariants : Obligations.ResetMeetsTheInvariants :=
  ⟨State.wf_iff.2 ⟨reset_shaped, State.reset_busy⟩, tableOk_of_idle State.reset_ws State.reset_tv,
    endOk_of_idle State.reset_ws, logOk_of_idle State.reset_ws State.reset_rpt⟩

end Sys2Proof.Machine
end
